-- ==== Sys2Proof/Word.lean ====
section
/-! DEFINITION. The widths of the block (00_scope.md R7, R9) and the two forms of a code word that the block decodes:
a control byte on the link (CTRL8, 30_encoding.md R111) and a host access descriptor (BUSR, BUSW, R118). -/

namespace Sys2Proof

/-- `u8`, one link symbol (R7, R9). -/
abbrev Byte := BitVec 8

/-- `u32`, one host register (R7, R9). -/
abbrev Word := BitVec 32

/-- A code word: what stands in front of a decoder. -/
inductive Code where
  /-- CTRL8: one byte received at a handshake wait (R110, R111). -/
  | ctrl8 (b : Byte)
  /-- BUSR or BUSW: the 41-bit descriptor `W`, `OFF[7:0]`, `DATA[31:0]` of one host access (R110, R118). -/
  | bus (d : BitVec 41)
  deriving DecidableEq, Repr

end Sys2Proof
end

