-- ==== Sys2Proof/Syntax.lean ====
section
/-! DEFINITION. One constructor for each row of spec/opcode_table.json, in the table's order: the control bytes
(44_control_bytes.md), the commands and the register accesses (45_host_commands.md, 40_crc32.md).
A write keeps all 32 bits of DATA, the ignored ones too (30_encoding.md R121); a name access keeps k = OFF[5:2]. -/

namespace Sys2Proof

inductive Instr where
  -- CTRL8: a byte received at a handshake wait
  | eot
  | bot
  | lok
  | sync
  | ok
  | rsd
  | sok
  | nok
  | ctrlOther (b : Byte)
  -- BUSW: commands
  | send
  | receive
  | crcClear
  | cmdReserved (data : Word)
  -- BUSW: register writes
  | crcUpdate (data : Word)
  | wrCtrl (data : Word)
  | wrStatus (data : Word)
  | wrRetrycount (data : Word)
  | wrChunkSize (data : Word)
  | wrFileSize (data : Word)
  | wrCrcPoly (data : Word)
  | wrCrcInit (data : Word)
  | wrCrcXorout (data : Word)
  | wrName (k : BitVec 4) (data : Word)
  | wrIgnored (off : BitVec 8) (data : Word)
  -- BUSR: register reads
  | rdCtrl
  | rdCmd
  | rdStatus
  | rdRetrycount
  | rdChunkSize
  | rdFileSize
  | rdCrcPoly
  | rdCrcInit
  | rdCrcXorout
  | rdCrcDin
  | rdCrcAcc
  | rdCrcOut
  | rdChunkIdx
  | rdRetryCnt
  | rdNumFull
  | rdRemSize
  | rdRxFileSize
  | rdRxChunkSize
  | rdRxCrcx
  | rdRxPoly
  | rdRxInitx
  | rdRxHdrCrc
  | rdRxHdrCalc
  | rdNokTotal
  | rdErrinfo
  | rdName (k : BitVec 4)
  | rdUnmapped (off : BitVec 8)
  deriving DecidableEq, Repr

end Sys2Proof
end

