-- ==== Sys2Proof/WellFormed.lean ====
section
/-! DEFINITION. Which instructions an encoding exists for: the rows whose operands the table restricts are
CTRL_OTHER, CMD_RESERVED, WR_IGNORED and RD_UNMAPPED; every operand of every other row is admitted by its type. -/

namespace Sys2Proof

/-- A byte outside the control-byte alphabet: 0x00 and 0x09 to 0xFF (30_encoding.md R112). -/
abbrev notControlByte (b : Byte) : Prop := b.toNat = 0 ∨ 9 ≤ b.toNat

/-- A CMD value other than the three commands (30_encoding.md R119, 45_host_commands.md R302). -/
abbrev reservedCommand (data : Word) : Prop := data ≠ 1#32 ∧ data ≠ 2#32 ∧ data ≠ 3#32

/-- An unmapped aligned offset: 0x64 to 0x7C, 0xC0 to 0xFC (10_state.md R32, R60). -/
abbrev unmappedOffset (off : BitVec 8) : Prop :=
  off.toNat % 4 = 0 ∧ ((0x64 ≤ off.toNat ∧ off.toNat ≤ 0x7C) ∨ 0xC0 ≤ off.toNat)

/-- An aligned offset a write to which is ignored: the RO registers 0x28 to 0x60 and the unmapped offsets
(10_state.md R32, 45_host_commands.md R312). -/
abbrev ignoredOffset (off : BitVec 8) : Prop :=
  off.toNat % 4 = 0 ∧ ((0x28 ≤ off.toNat ∧ off.toNat ≤ 0x60) ∨ unmappedOffset off)

/-- The operands of `i` are ones its row of the table admits. -/
def Instr.WellFormed : Instr → Bool
  | .ctrlOther b => decide (notControlByte b)
  | .cmdReserved data => decide (reservedCommand data)
  | .wrIgnored off _ => decide (ignoredOffset off)
  | .rdUnmapped off => decide (unmappedOffset off)
  | .eot | .bot | .lok | .sync | .ok | .rsd | .sok | .nok => true
  | .send | .receive | .crcClear => true
  | .crcUpdate _ | .wrCtrl _ | .wrStatus _ | .wrRetrycount _ | .wrChunkSize _ | .wrFileSize _ => true
  | .wrCrcPoly _ | .wrCrcInit _ | .wrCrcXorout _ | .wrName _ _ => true
  | .rdCtrl | .rdCmd | .rdStatus | .rdRetrycount | .rdChunkSize | .rdFileSize => true
  | .rdCrcPoly | .rdCrcInit | .rdCrcXorout | .rdCrcDin | .rdCrcAcc | .rdCrcOut => true
  | .rdChunkIdx | .rdRetryCnt | .rdNumFull | .rdRemSize => true
  | .rdRxFileSize | .rdRxChunkSize | .rdRxCrcx | .rdRxPoly | .rdRxInitx | .rdRxHdrCrc | .rdRxHdrCalc => true
  | .rdNokTotal | .rdErrinfo | .rdName _ => true

end Sys2Proof
end

