-- ==== Sys2Proof/Decode.lean ====
section
/-! DEFINITION. The decoder and the encoder of the opcode table: control bytes (30_encoding.md R111, R112) and host
access descriptors (R118 to R120). The decoder is total: a control byte always decodes, and a descriptor decodes
unless its offset is not a multiple of 4 (20_memory.md R82), which it rejects by name. -/

namespace Sys2Proof

/-- Why a code word is not an instruction. -/
inductive DecodeError where
  /-- the offset's bits 1:0 are not 0 (20_memory.md R81, R82) -/
  | misalignedOffset
  deriving DecidableEq, Repr

/-- The descriptor `W`, `OFF`, `DATA`, bit 40 first (R118). -/
def busDesc (w : Bool) (off : BitVec 8) (data : Word) : BitVec 41 :=
  (BitVec.ofBool w ++ off ++ data : BitVec (1 + 8 + 32))

/-- `W`, bit 40: 1 for a write (R118). -/
def descWrite (d : BitVec 41) : Bool := d.getLsbD 40

/-- `OFF`, bits 39:32 (R118). -/
def descOff (d : BitVec 41) : BitVec 8 := d.extractLsb' 32 8

/-- `DATA`, bits 31:0 (R118). -/
def descData (d : BitVec 41) : Word := d.extractLsb' 0 32

/-- A byte received at a handshake wait (R111, R112). -/
def decodeCtrl (b : Byte) : Instr :=
  match b.toNat with
  | 0x01 => .eot
  | 0x02 => .bot
  | 0x03 => .lok
  | 0x04 => .sync
  | 0x05 => .ok
  | 0x06 => .rsd
  | 0x07 => .sok
  | 0x08 => .nok
  | _ => .ctrlOther b

/-- A write to `CMD` (R119): CMD_RESERVED is decoded after the three commands. -/
def decodeCommand (data : Word) : Instr :=
  if data = 1#32 then .send
  else if data = 2#32 then .receive
  else if data = 3#32 then .crcClear
  else .cmdReserved data

/-- A write at an aligned offset (10_state.md R32): WR_IGNORED is decoded last. -/
def decodeWrite (off : BitVec 8) (data : Word) : Instr :=
  match off.toNat with
  | 0x00 => .wrCtrl data
  | 0x04 => decodeCommand data
  | 0x08 => .wrStatus data
  | 0x0C => .wrRetrycount data
  | 0x10 => .wrChunkSize data
  | 0x14 => .wrFileSize data
  | 0x18 => .wrCrcPoly data
  | 0x1C => .wrCrcInit data
  | 0x20 => .wrCrcXorout data
  | 0x24 => .crcUpdate data
  | _ => if off.extractLsb' 6 2 = 2#2 then .wrName (off.extractLsb' 2 4) data else .wrIgnored off data

/-- A read at an aligned offset (10_state.md R32): RD_UNMAPPED is decoded last. -/
def decodeRead (off : BitVec 8) : Instr :=
  match off.toNat with
  | 0x00 => .rdCtrl
  | 0x04 => .rdCmd
  | 0x08 => .rdStatus
  | 0x0C => .rdRetrycount
  | 0x10 => .rdChunkSize
  | 0x14 => .rdFileSize
  | 0x18 => .rdCrcPoly
  | 0x1C => .rdCrcInit
  | 0x20 => .rdCrcXorout
  | 0x24 => .rdCrcDin
  | 0x28 => .rdCrcAcc
  | 0x2C => .rdCrcOut
  | 0x30 => .rdChunkIdx
  | 0x34 => .rdRetryCnt
  | 0x38 => .rdNumFull
  | 0x3C => .rdRemSize
  | 0x40 => .rdRxFileSize
  | 0x44 => .rdRxChunkSize
  | 0x48 => .rdRxCrcx
  | 0x4C => .rdRxPoly
  | 0x50 => .rdRxInitx
  | 0x54 => .rdRxHdrCrc
  | 0x58 => .rdRxHdrCalc
  | 0x5C => .rdNokTotal
  | 0x60 => .rdErrinfo
  | _ => if off.extractLsb' 6 2 = 2#2 then .rdName (off.extractLsb' 2 4) else .rdUnmapped off

/-- A host access descriptor (R118). The DATA bits of a read stand outside every RD_* row's mask and are not looked at
(DEDUCED, log entry 11). -/
def decodeBus (d : BitVec 41) : Except DecodeError Instr :=
  if (descOff d).toNat % 4 ≠ 0 then .error .misalignedOffset
  else if descWrite d then .ok (decodeWrite (descOff d) (descData d))
  else .ok (decodeRead (descOff d))

/-- The decoder. -/
def decode : Code → Except DecodeError Instr
  | .ctrl8 b => .ok (decodeCtrl b)
  | .bus d => decodeBus d

/-- The instruction that the decoder reads from the bits `w` of an opcode-table row of `nbits` bits: a CTRL8 row is
one byte, every other row a 41-bit descriptor, whose bits 47:41 are 0. -/
def decodeTableWord (nbits w : Nat) : Option Instr :=
  if nbits ≤ 8 then
    if w < 2 ^ 8 then some (decodeCtrl (BitVec.ofNat 8 w)) else none
  else if w < 2 ^ 41 then
    match decode (.bus (BitVec.ofNat 41 w)) with
    | .ok i => some i
    | .error _ => none
  else none

/-- The offset of `NAMEk`: 0x80 + 4k (10_state.md R59). -/
def nameOffset (k : BitVec 4) : BitVec 8 := (2#2 ++ k ++ 0#2 : BitVec (2 + 4 + 2))

/-- A write of `data` at `off` (BUSW, R118). -/
def busWrite (off : BitVec 8) (data : Word) : Code := .bus (busDesc true off data)

/-- A read at `off` (BUSR, R118): DATA is 0. -/
def busRead (off : BitVec 8) : Code := .bus (busDesc false off 0#32)

/-- The encoder, from the tables of R111, R119 and 10_state.md R32. -/
def encode : Instr → Code
  | .eot => .ctrl8 0x01#8
  | .bot => .ctrl8 0x02#8
  | .lok => .ctrl8 0x03#8
  | .sync => .ctrl8 0x04#8
  | .ok => .ctrl8 0x05#8
  | .rsd => .ctrl8 0x06#8
  | .sok => .ctrl8 0x07#8
  | .nok => .ctrl8 0x08#8
  | .ctrlOther b => .ctrl8 b
  | .send => busWrite 0x04#8 1#32
  | .receive => busWrite 0x04#8 2#32
  | .crcClear => busWrite 0x04#8 3#32
  | .cmdReserved data => busWrite 0x04#8 data
  | .crcUpdate data => busWrite 0x24#8 data
  | .wrCtrl data => busWrite 0x00#8 data
  | .wrStatus data => busWrite 0x08#8 data
  | .wrRetrycount data => busWrite 0x0C#8 data
  | .wrChunkSize data => busWrite 0x10#8 data
  | .wrFileSize data => busWrite 0x14#8 data
  | .wrCrcPoly data => busWrite 0x18#8 data
  | .wrCrcInit data => busWrite 0x1C#8 data
  | .wrCrcXorout data => busWrite 0x20#8 data
  | .wrName k data => busWrite (nameOffset k) data
  | .wrIgnored off data => busWrite off data
  | .rdCtrl => busRead 0x00#8
  | .rdCmd => busRead 0x04#8
  | .rdStatus => busRead 0x08#8
  | .rdRetrycount => busRead 0x0C#8
  | .rdChunkSize => busRead 0x10#8
  | .rdFileSize => busRead 0x14#8
  | .rdCrcPoly => busRead 0x18#8
  | .rdCrcInit => busRead 0x1C#8
  | .rdCrcXorout => busRead 0x20#8
  | .rdCrcDin => busRead 0x24#8
  | .rdCrcAcc => busRead 0x28#8
  | .rdCrcOut => busRead 0x2C#8
  | .rdChunkIdx => busRead 0x30#8
  | .rdRetryCnt => busRead 0x34#8
  | .rdNumFull => busRead 0x38#8
  | .rdRemSize => busRead 0x3C#8
  | .rdRxFileSize => busRead 0x40#8
  | .rdRxChunkSize => busRead 0x44#8
  | .rdRxCrcx => busRead 0x48#8
  | .rdRxPoly => busRead 0x4C#8
  | .rdRxInitx => busRead 0x50#8
  | .rdRxHdrCrc => busRead 0x54#8
  | .rdRxHdrCalc => busRead 0x58#8
  | .rdNokTotal => busRead 0x5C#8
  | .rdErrinfo => busRead 0x60#8
  | .rdName k => busRead (nameOffset k)
  | .rdUnmapped off => busRead off

end Sys2Proof
end

