-- ==== Sys2Proof/Machine/Bits.lean ====
section
/-! DEFINITION. Byte order and bit reflection (00_scope.md R10, R11, 20_memory.md R86 to R88). -/

namespace Sys2Proof.Machine

/-- `le32(x)`: the four bytes of `x`, least significant first (R10). -/
def le32 (x : Word) : List Byte :=
  [x.extractLsb' 0 8, x.extractLsb' 8 8, x.extractLsb' 16 8, x.extractLsb' 24 8]

/-- The word whose bits `[8k+7:8k]` are byte `k` (R10, R88). -/
def wordOfBytes (b0 b1 b2 b3 : Byte) : Word := (b3 ++ b2 ++ b1 ++ b0 : BitVec (8 + 8 + 8 + 8))

/-- `from_le32` of the four bytes of `s` that start at byte `at` (R10). -/
def fromLe32 (s : List Byte) (start : Nat := 0) : Word :=
  wordOfBytes (s.getD start 0#8) (s.getD (start + 1) 0#8) (s.getD (start + 2) 0#8) (s.getD (start + 3) 0#8)

/-- `reflect_8(b)` (R11). -/
def reflect8 (b : Byte) : Byte := b.reverse

/-- `reflect_32(x)` (R11). -/
def reflect32 (x : Word) : Word := x.reverse

/-- `s[a:b]`, bytes `a` to `b-1` (R8). -/
def slice (s : List Byte) (a b : Nat) : List Byte := (s.drop a).take (b - a)

/-- The bytes of `s` before its first 0x00 (30_encoding.md R115). -/
def untilNul (s : List Byte) : List Byte := s.takeWhile (· != 0#8)

/-- Some byte of `s` is 0x00. -/
def hasNul (s : List Byte) : Bool := s.any (· == 0#8)

/-- The 64 bytes of the name buffer: byte `j` is `NAME(j/4)[8(j mod 4)+7 : 8(j mod 4)]` (10_state.md R59, R88). -/
def nameBytes (name : Vector Word 16) : List Byte := name.toList.flatMap le32

/-- The name buffer that holds the 64 bytes `s` (R59, R88). -/
def nameOfBytes (s : List Byte) : Vector Word 16 := Vector.ofFn fun k => fromLe32 s (4 * k.val)

end Sys2Proof.Machine
end

