-- ==== Sys2Proof/Config.lean ====
section
/-! DEFINITION. What an implementation fixes (00_scope.md R7, 92_eei_decisions.md OPEN parameters) and the free values
(93_implementation_defined.md). Every `opaque` constant has no body: a proof holds for every value of it. -/

namespace Sys2Proof.Config

/-- The build parameters of the block that a source of the spec leaves OPEN (R7). -/
structure Params where
  /-- `RETRYCOUNT_DEFAULT`: the reset value of RETRYCOUNT (10_state.md R37) -/
  retrycountDefault : BitVec 8
  /-- `CHUNK_SIZE_DEFAULT`: the reset value of CHUNK_SIZE (10_state.md R38) -/
  chunkSizeDefault : Word
  /-- `CHUNK_BUF_SIZE`: the capacity of BUF in bytes (10_state.md R64) -/
  chunkBufSize : Nat
  deriving DecidableEq, Repr

/-- The constraints of R7: RETRYCOUNT_DEFAULT in 1..255, CHUNK_BUF_SIZE in 5..0x7FFFFFFF, CHUNK_SIZE_DEFAULT in
5..CHUNK_BUF_SIZE. -/
abbrev Params.Legal (p : Params) : Prop :=
  1 ≤ p.retrycountDefault.toNat ∧
  5 ≤ p.chunkBufSize ∧ p.chunkBufSize ≤ 0x7FFFFFFF ∧
  5 ≤ p.chunkSizeDefault.toNat ∧ p.chunkSizeDefault.toNat ≤ p.chunkBufSize

/-- RETRYCOUNT_DEFAULT is one more than this, so 1..255 (free; log entry 4). -/
opaque freeRetrycount : Fin 255

/-- CHUNK_BUF_SIZE is five more than this, so 5..0x7FFFFFFF (free; log entry 4). -/
opaque freeChunkBuf : Fin 0x7FFFFFFB

/-- CHUNK_SIZE_DEFAULT is five more than this, cut to CHUNK_BUF_SIZE (free; log entry 4). -/
opaque freeChunkSize : Nat

/-- `REG_BASE`: where the host's bus places the register window (R7, R97; free). -/
opaque regBase : Nat

/-- How many bytes the n-th LinkDiscard would remove from an endless queue (20_memory.md R91: `draw k`; free; log
entry 5). -/
opaque discardDraw : Nat → Nat

/-- CHUNK_BUF_SIZE of the machine. -/
def chunkBufSize : Nat := freeChunkBuf.val + 5

/-- The parameters of the machine. -/
def params : Params where
  retrycountDefault := BitVec.ofNat 8 (freeRetrycount.val + 1)
  chunkSizeDefault := BitVec.ofNat 32 (freeChunkSize % (chunkBufSize - 4) + 5)
  chunkBufSize := chunkBufSize

end Sys2Proof.Config
end

