-- ==== Sys2Proof/Machine/State.lean ====
section
/-! DEFINITION. The state of the block, of its ports and of the interleaving, as plain data (10_state.md, 20_memory.md
R80), the reasons a step can stop, and the machine right after reset (70_reset_and_hazards.md R370). -/

namespace Sys2Proof.Machine

/-- A byte buffer (BUF or HBUF) in its one canonical form: addresses strictly rising, no listed byte equal to what an
unlisted address reads as (Machine/Memory.lean). -/
abbrev Memory := List Host.Cell

/-- Session outcome codes (60_exceptions.md R331): the reserved codes 7 to 15 are never produced, so they have no
constructor. -/
inductive SessionOutcome where
  | noOutcome
  | success
  | successExhausted
  | localIoError
  | headerError
  | retryExhausted
  | configError
  deriving DecidableEq, Repr

/-- Detail codes (R332): the codes the table does not list are never produced, so they have no constructor. -/
inductive Detail where
  | noError
  | negFilesize
  | badChunksize
  | nameUnterminated
  | badChecksum
  | fileSizeRange
  | chunkSizeRange
  | retrycountZero
  | nameTooLong
  | srcRead
  | sinkOpen
  | sinkAppend
  | retryLimit
  deriving DecidableEq, Repr

/-- The direction of a session: `STATUS.DIR` (10_state.md R35) and `SESS.dir` (R63). -/
inductive Direction where
  | send
  | receive
  deriving DecidableEq, Repr

/-- How a session that is closing its file will end (60_exceptions.md R335): normally, or with a raised outcome. -/
inductive Ending where
  | finish
  | raised (o : SessionOutcome) (d : Detail)
  deriving DecidableEq, Repr

/-- The controller's position (10_state.md R31, R65): its next primitive in the programs of 42_sender.md and
43_receiver.md. `k` counts the bytes of a counted transfer already done. -/
inductive Pos where
  /-- no session is running -/
  | idle
  /-- sender, R201: to send BOT -/
  | sSendBot
  /-- sender, R201: waits for the echoed BOT -/
  | sAwaitPeer
  /-- sender, R202: to send header byte `k` -/
  | sHeader (k : Nat)
  /-- sender, R204: to issue SrcRead -/
  | sLoad
  /-- sender, R204: waits for SrcRead's answer -/
  | sLoadAns
  /-- sender, R205: to discard stray bytes -/
  | sDiscard
  /-- sender, R205: to send byte `k` of the chunk -/
  | sChunk (k : Nat)
  /-- sender, R206: waits for SYNC -/
  | sWaitSync
  /-- sender, R206: to echo SYNC -/
  | sEchoSync
  /-- sender, R207: waits for the verdict -/
  | sWaitVerdict
  /-- sender, R210, R335: to issue SrcClose -/
  | sClose (e : Ending)
  /-- sender, R210, R335: waits for SrcClose's answer -/
  | sCloseAns (e : Ending)
  /-- receiver, R241: discards bytes until BOT -/
  | rAwaitBot
  /-- receiver, R241: to echo BOT -/
  | rEchoBot
  /-- receiver, R242: to receive header byte `k` -/
  | rHeader (k : Nat)
  /-- receiver, R243: to issue SinkOpen -/
  | rOpen
  /-- receiver, R243: waits for SinkOpen's answer -/
  | rOpenAns
  /-- receiver, R245: to send EOT -/
  | rSendEot
  /-- receiver, R245: to receive byte `k` of the chunk -/
  | rChunk (k : Nat)
  /-- receiver, R247: to send SYNC -/
  | rSendSync
  /-- receiver, R247: waits for SYNC -/
  | rWaitSync
  /-- receiver, R248, R249: to send the verdict -/
  | rSendVerdict
  /-- receiver, R250: to issue SinkAppend -/
  | rCommit
  /-- receiver, R250: waits for SinkAppend's answer -/
  | rCommitAns
  /-- receiver, R251, R335: to issue SinkClose -/
  | rClose (e : Ending)
  /-- receiver, R251, R335: waits for SinkClose's answer -/
  | rCloseAns (e : Ending)
  deriving DecidableEq, Repr

/-- A file-port request (20_memory.md R92). -/
inductive FileRequest where
  | srcRead (off n : Word)
  | srcClose
  | sinkOpen (name : List Byte)
  | sinkAppend (s : List Byte)
  | sinkClose
  deriving DecidableEq, Repr

/-- The host's answer to a file-port request (R92). -/
inductive FileAnswer where
  | data (s : List Byte)
  | ack
  | ioErr
  deriving DecidableEq, Repr

/-- One access of the host's bus, admitted or not (R82): `offset` is in bytes from `REG_BASE`, `size` in bytes, `data`
is the value written. -/
structure HostAccess where
  write : Bool
  offset : Nat
  size : Nat
  data : Word
  deriving DecidableEq, Repr

/-- One turn of the interleaving (R94, 00_scope.md R6; log entry 1). -/
inductive Turn where
  /-- the block takes a step, or holds -/
  | block
  /-- the host accesses a register -/
  | access (a : HostAccess)
  /-- the host answers the pending file-port request -/
  | answer (x : FileAnswer)
  /-- the peer delivers a byte -/
  | deliver (b : Byte)
  /-- the block is reset (70_reset_and_hazards.md R370 to R372) -/
  | reset
  deriving DecidableEq, Repr

/-- A CRC configuration (40_crc32.md R140). -/
structure CrcCfg where
  poly : Word
  init : Word
  xorout : Word
  refin : Bool
  refout : Bool
  deriving DecidableEq, Repr

/-- The session snapshot SESS (10_state.md R63). -/
structure Sess where
  dir : Direction
  cfg : CrcCfg
  rc : BitVec 8
  hstrict : Bool
  rstrict : Bool
  fs : Word
  cs : Word
  /-- `P = cs - 4`, the payload length of a full chunk -/
  p : Word
  /-- the payload length of the current chunk -/
  len : Word
  /-- receiver: the current attempt's CRC comparison -/
  ok : Bool
  deriving DecidableEq, Repr

/-- The session-result registers (10_state.md R46 to R58, R62). -/
structure Results where
  chunkIdx : Word
  retryCnt : BitVec 8
  numFull : Word
  remSize : Word
  rxFileSize : Word
  rxChunkSize : Word
  rxCrcx : Word
  rxPoly : Word
  rxInitx : Word
  rxHdrCrc : Word
  rxHdrCalc : Word
  nokTotal : Word
  errinfo : Detail
  deriving DecidableEq, Repr

/-- Everything the spec gives the block, its ports, and the model's own `params`, `draws`, `agenda` and `trace`. -/
structure State where
  /-- the build parameters, constant (00_scope.md R7; log entry 4) -/
  params : Config.Params
  /-- CTRL[3:0] (10_state.md R33) -/
  ctrl : BitVec 4
  /-- STATUS.BUSY (R35) -/
  busy : Bool
  /-- STATUS.DONE (R35) -/
  done : Bool
  /-- STATUS.WERR (R35) -/
  werr : Bool
  /-- STATUS.EXHAUSTED (R35) -/
  exhausted : Bool
  /-- STATUS.OUTCOME (R35) -/
  outcome : SessionOutcome
  /-- STATUS.DIR (R35) -/
  dir : Direction
  /-- RETRYCOUNT (R37) -/
  retrycount : BitVec 8
  /-- CHUNK_SIZE (R38) -/
  chunkSize : Word
  /-- FILE_SIZE (R39) -/
  fileSize : Word
  /-- CRC_POLY (R40) -/
  crcPoly : Word
  /-- CRC_INIT (R41) -/
  crcInit : Word
  /-- CRC_XOROUT (R42) -/
  crcXorout : Word
  /-- CRC_ACC (R44) -/
  crcAcc : Word
  /-- the session-result registers (R62) -/
  res : Results
  /-- NAME0 to NAME15 (R59) -/
  name : Vector Word 16
  /-- SESS (R63) -/
  sess : Sess
  /-- BUF (R64) -/
  buf : Memory
  /-- HBUF (R64) -/
  hbuf : Memory
  /-- the controller's position (R31, R65); STATUS.STATE is its projection (R36) -/
  pos : Pos
  /-- the pending file-port request (R65) -/
  pending : Option FileRequest
  /-- the host's answer, not taken yet (45_host_commands.md R314; log entry 13) -/
  answer : Option FileAnswer
  /-- this session's SinkOpen was answered Ack (60_exceptions.md R335) -/
  sinkOpened : Bool
  /-- received bytes not yet read, the oldest first (20_memory.md R90) -/
  rxq : List Byte
  /-- transmitted bytes, the oldest first (R89; log entry 15) -/
  txq : List Byte
  /-- the host's output file, as the acknowledged requests leave it (R92; log entry 14) -/
  sinkFile : List Byte
  /-- the model's counter of discards (R91; log entry 5) -/
  draws : Nat
  /-- the coming turns of the interleaving (R94; log entry 1) -/
  agenda : List Turn
  /-- what the host's reads have returned, the oldest first (30_encoding.md R122; log entry 10) -/
  trace : List Word
  deriving DecidableEq, Repr

/-- Why the machine stops with a fault. -/
inductive Fault where
  /-- A controller step addresses a byte outside BUF's `CHUNK_BUF_SIZE` bytes (10_state.md R64, 20_memory.md R80).
  Raised by the steps that read or write BUF. Safe: no session reaches it (log entry 8). -/
  | bufRange
  /-- A controller step addresses a byte outside HBUF's 88 bytes (R64, R80). Raised by the steps that read or write
  HBUF. Safe: no session reaches it (log entry 8). -/
  | hbufRange
  deriving DecidableEq, Repr

/-- Why the model gives a step no meaning. -/
inductive Refusal where
  /-- The instruction has no meaning yet. Raised by exec's arms only. Safe. -/
  | notModelled (mnemonic : String)
  /-- A host access that is not an aligned 32-bit access inside the window (20_memory.md R82). Raised by the host's
  access. Safe: the spec says the model refuses it. -/
  | accessNotAdmitted
  /-- A host answer while no request waits for one, also after a reset withdrew it (R92, 70_reset_and_hazards.md R371,
  93_implementation_defined.md). Raised by the host's answer. Safe: the spec says the model refuses it. -/
  | answerWithoutRequest
  /-- A host answer that the pending request does not admit (R92). Raised by the host's answer, and by the block's
  taking of such an answer. Safe: the spec says the model refuses it. -/
  | answerNotAdmitted
  deriving DecidableEq, Repr

/-- What a step answers. -/
abbrev Result := Host.Outcome State Fault Refusal

/-- The session-result registers after reset, and after an accepted START (10_state.md R62). -/
def Results.cleared : Results where
  chunkIdx := 0#32
  retryCnt := 0#8
  numFull := 0#32
  remSize := 0#32
  rxFileSize := 0#32
  rxChunkSize := 0#32
  rxCrcx := 0#32
  rxPoly := 0#32
  rxInitx := 0#32
  rxHdrCrc := 0#32
  rxHdrCalc := 0#32
  nokTotal := 0#32
  errinfo := .noError

/-- SESS after reset: unspecified in the spec (70_reset_and_hazards.md R370), DESIGN CHOICE (log entry 6). -/
def Sess.afterReset : Sess where
  dir := .send
  cfg := { poly := 0#32, init := 0#32, xorout := 0#32, refin := false, refout := false }
  rc := 0#8
  hstrict := false
  rstrict := false
  fs := 0#32
  cs := 0#32
  p := 0#32
  len := 0#32
  ok := false

/-- The machine right after reset (R370). -/
def State.reset : State where
  params := Config.params
  ctrl := 0xC#4
  busy := false
  done := false
  werr := false
  exhausted := false
  outcome := .noOutcome
  dir := .send
  retrycount := Config.params.retrycountDefault
  chunkSize := Config.params.chunkSizeDefault
  fileSize := 0#32
  crcPoly := 0x04C11DB7#32
  crcInit := 0xFFFFFFFF#32
  crcXorout := 0xFFFFFFFF#32
  crcAcc := 0xFFFFFFFF#32
  res := Results.cleared
  name := Vector.replicate 16 0#32
  sess := Sess.afterReset
  buf := []
  hbuf := []
  pos := .idle
  pending := none
  answer := none
  sinkOpened := false
  rxq := []
  txq := []
  sinkFile := []
  draws := 0
  agenda := []
  trace := []

end Sys2Proof.Machine
end

