-- ==== Sys2Proof/Machine/Crc.lean ====
section
/-! DEFINITION. The CRC32 engine's function (40_crc32.md R140 to R143). -/

namespace Sys2Proof.Machine

/-- One pass of R141's loop: the polynomial is XORed in exactly when the register's high bit, before the shift,
differs from the input bit. -/
def crcBit (poly reg : Word) (inputBit : Bool) : Word :=
  let shifted := reg <<< 1
  if (reg.getLsbD 31 ^^ inputBit) = true then shifted ^^^ poly else shifted

/-- The input byte as the register sees it: reflected when `refin` is 1 (R141). -/
def crcInput (cfg : CrcCfg) (b : Byte) : Byte := if cfg.refin then reflect8 b else b

/-- `crc_step(cfg, reg, b)`: the eight bits of the byte, most significant first (R141). -/
def crcStep (cfg : CrcCfg) (reg : Word) (b : Byte) : Word :=
  [7, 6, 5, 4, 3, 2, 1, 0].foldl (fun r j => crcBit cfg.poly r ((crcInput cfg b).getLsbD j)) reg

/-- `crc_final(cfg, reg)` (R142). -/
def crcFinal (cfg : CrcCfg) (reg : Word) : Word :=
  (if cfg.refout then reflect32 reg else reg) ^^^ cfg.xorout

/-- `k x`, with `x` worked out first: the kernel then evaluates a long checksum without nesting its steps. -/
def withWord (x : Word) (k : Word → Word) : Word :=
  match x.toNat with
  | 0 => k 0#32
  | n + 1 => k (BitVec.ofNat 32 (n + 1))

/-- The register after the bytes `s` (the loop of R143; `crcFeed_eq_foldl` says it is the plain fold). -/
def crcFeed (cfg : CrcCfg) : Word → List Byte → Word
  | reg, [] => reg
  | reg, b :: s => withWord (crcStep cfg reg b) fun r => crcFeed cfg r s

/-- `checksum(cfg, s)` (R143). -/
def checksum (cfg : CrcCfg) (s : List Byte) : Word := crcFinal cfg (crcFeed cfg cfg.init s)

end Sys2Proof.Machine
end

