-- ==== Sys2Proof/Machine/Header.lean ====
section
/-! DEFINITION. The header codec (41_header_codec.md R170 to R174, 30_encoding.md R113 to R115). -/

namespace Sys2Proof.Machine

/-- A `TransferHeader` (R170): `fileSize` and `chunkSize` are two's-complement patterns, read with `toInt` (R114). -/
structure Header where
  fileSize : Word
  chunkSize : Word
  crcX : Word
  fileName : List Byte
  poly : Word
  initX : Word
  crcCheck : Word
  deriving DecidableEq, Repr

/-- The header's 88 bytes: HDR_SIZE (R7, R113). -/
def hdrSize : Nat := 88

/-- The `fileName` field: the name, a NUL, then zero fill to 64 bytes (R115). -/
def nameField (name : List Byte) : List Byte := name ++ List.replicate (64 - name.length) 0#8

/-- Bytes 0 to 83 of the encoded header, in the order of R113. -/
def headerBody (h : Header) : List Byte :=
  le32 h.fileSize ++ le32 h.chunkSize ++ le32 h.crcX ++ nameField h.fileName ++ le32 h.poly ++ le32 h.initX

/-- ENCODE (R172): the `crcCheck` of `h` is ignored, the checksum is always computed. -/
def encodeHeader (h : Header) (cfg : CrcCfg) : List Byte :=
  headerBody h ++ le32 (checksum cfg (headerBody h))

/-- The recomputed checksum of R173, over bytes 0 to 83. -/
def headerCalc (cfg : CrcCfg) (s : List Byte) : Word := checksum cfg (slice s 0 84)

/-- The 64-byte name field, bytes 12 to 75 (R113). -/
def headerNameField (s : List Byte) : List Byte := slice s 12 76

/-- The fields of the 88 bytes `s` (R113, R173). -/
def headerFields (s : List Byte) : Header where
  fileSize := fromLe32 s 0
  chunkSize := fromLe32 s 4
  crcX := fromLe32 s 8
  fileName := untilNul (headerNameField s)
  poly := fromLe32 s 76
  initX := fromLe32 s 80
  crcCheck := fromLe32 s 84

/-- DECODE's verdict (R173) with a chunk buffer of `cap` bytes: the first check that fails names the reason. -/
def decodeHeader (cap : Nat) (cfg : CrcCfg) (strict : Bool) (s : List Byte) : Except Detail Header :=
  let h := headerFields s
  if h.fileSize.toInt < 0 then .error .negFilesize
  else if h.chunkSize.toInt < 5 ∨ (cap : Int) < h.chunkSize.toInt then .error .badChunksize
  else if hasNul (headerNameField s) = false then .error .nameUnterminated
  else if strict = true ∧ headerCalc cfg s ≠ h.crcCheck then .error .badChecksum
  else .ok h

/-- A header that is valid under `cfg` (R171). -/
def Header.Valid (cap : Nat) (cfg : CrcCfg) (h : Header) : Prop :=
  0 ≤ h.fileSize.toInt ∧
  5 ≤ h.chunkSize.toInt ∧ h.chunkSize.toInt ≤ (cap : Int) ∧
  h.fileName.length ≤ 63 ∧ (∀ b ∈ h.fileName, b ≠ 0#8) ∧
  h.crcCheck = checksum cfg (slice (encodeHeader h cfg) 0 84)

end Sys2Proof.Machine
end

