-- ==== Sys2Proof/Machine/Operands.lean ====
section
/-! DEFINITION. The operand forms of the host accesses (30_encoding.md R121): which bits of DATA a write uses, and how a
register narrower than 32 bits reads. Every other operand is DATA[31:0] itself. -/

namespace Sys2Proof.Machine

/-- The byte operand of a write to `CRC_DIN`: DATA[7:0] (R121, 40_crc32.md R145). -/
def crcDinOperand (data : Word) : Byte := data.setWidth 8

/-- The operand of a write to `RETRYCOUNT`: DATA[7:0] (R121, 45_host_commands.md R308). -/
def retrycountOperand (data : Word) : BitVec 8 := data.setWidth 8

/-- The operand of a write to `CTRL`: DATA[3:0] (R121, R307). -/
def ctrlOperand (data : Word) : BitVec 4 := data.setWidth 4

/-- A register of fewer than 32 bits as a host reads it: its reserved bits are 0 (10_state.md R61). -/
def readExtend {n : Nat} (v : BitVec n) : Word := v.setWidth 32

/-- `NAMEk` of the name buffer (10_state.md R59). -/
def nameWord (name : Vector Word 16) (k : BitVec 4) : Word := name[k.toFin.val]

/-- The name buffer with `NAMEk` replaced (45_host_commands.md R311). -/
def nameUpdate (name : Vector Word 16) (k : BitVec 4) (data : Word) : Vector Word 16 := name.set k.toFin.val data

end Sys2Proof.Machine
end

