-- ==== Sys2Proof/Machine/Flags.lean ====
section
/-! DEFINITION. The fields of CTRL and STATUS (10_state.md R33, R35, R36), the outcome and detail codes
(60_exceptions.md R331, R332) and the flag computations: the STATUS word, its W1C bits, and the configuration the
registers hold. -/

namespace Sys2Proof.Machine

/-- `CTRL.HDR_STRICT`, bit 0 (R33). -/
def State.hdrStrict (s : State) : Bool := s.ctrl.getLsbD 0

/-- `CTRL.RETRY_STRICT`, bit 1 (R33). -/
def State.retryStrict (s : State) : Bool := s.ctrl.getLsbD 1

/-- `CTRL.REFIN`, bit 2 (R33). -/
def State.refin (s : State) : Bool := s.ctrl.getLsbD 2

/-- `CTRL.REFOUT`, bit 3 (R33). -/
def State.refout (s : State) : Bool := s.ctrl.getLsbD 3

/-- `cfg_now`: the CRC configuration the registers hold (40_crc32.md R140). -/
def State.cfgNow (s : State) : CrcCfg where
  poly := s.crcPoly
  init := s.crcInit
  xorout := s.crcXorout
  refin := s.refin
  refout := s.refout

/-- Outcome codes (60_exceptions.md R331). -/
def SessionOutcome.code : SessionOutcome → BitVec 4
  | .noOutcome => 0#4
  | .success => 1#4
  | .successExhausted => 2#4
  | .localIoError => 3#4
  | .headerError => 4#4
  | .retryExhausted => 5#4
  | .configError => 6#4

/-- Detail codes (R332). -/
def Detail.code : Detail → BitVec 8
  | .noError => 0x00#8
  | .negFilesize => 0x01#8
  | .badChunksize => 0x02#8
  | .nameUnterminated => 0x03#8
  | .badChecksum => 0x04#8
  | .fileSizeRange => 0x11#8
  | .chunkSizeRange => 0x12#8
  | .retrycountZero => 0x13#8
  | .nameTooLong => 0x14#8
  | .srcRead => 0x21#8
  | .sinkOpen => 0x22#8
  | .sinkAppend => 0x23#8
  | .retryLimit => 0x31#8

/-- `STATUS.DIR`: 0 SEND, 1 RECEIVE (10_state.md R35). -/
def Direction.bit : Direction → BitVec 1
  | .send => 0#1
  | .receive => 1#1

/-- `STATUS.STATE`: the host-visible projection of the controller's position (R31, R36; log entry 17). -/
def Pos.stateCode : Pos → BitVec 4
  | .idle => 0#4
  | .sSendBot | .sAwaitPeer => 1#4
  | .sHeader _ => 2#4
  | .sLoad | .sLoadAns => 3#4
  | .sDiscard | .sChunk _ => 4#4
  | .sWaitSync | .sEchoSync => 5#4
  | .sWaitVerdict => 6#4
  | .sClose _ | .sCloseAns _ => 7#4
  | .rAwaitBot | .rEchoBot => 8#4
  | .rHeader _ => 9#4
  | .rOpen | .rOpenAns => 10#4
  | .rSendEot | .rChunk _ => 11#4
  | .rSendSync | .rWaitSync | .rSendVerdict => 12#4
  | .rCommit | .rCommitAns => 13#4
  | .rClose _ | .rCloseAns _ => 14#4

/-- The five handshake waits (44_control_bytes.md): the only positions where a received byte is a control byte
(20_memory.md R98). -/
def Pos.handshakeWait : Pos → Bool
  | .sAwaitPeer | .sWaitSync | .sWaitVerdict | .rAwaitBot | .rWaitSync => true
  | _ => false

/-- The STATUS word (45_host_commands.md R303): DIR in bit 20, STATE in 19:16, OUTCOME in 11:8, then EXHAUSTED, WERR,
DONE and BUSY in 3:0; the other bits are 0. -/
def State.statusWord (s : State) : Word :=
  (0#11 ++ s.dir.bit ++ s.pos.stateCode ++ 0#4 ++ s.outcome.code ++ 0#4 ++ BitVec.ofBool s.exhausted ++
    BitVec.ofBool s.werr ++ BitVec.ofBool s.done ++ BitVec.ofBool s.busy :
    BitVec (11 + 1 + 4 + 4 + 4 + 4 + 1 + 1 + 1 + 1))

/-- A flag that a write clears when it writes 1 to its bit (R32: W1C). -/
def clearedBy (flag writtenBit : Bool) : Bool := flag && !writtenBit

end Sys2Proof.Machine
end

