-- ==== Sys2Proof/Machine/Memory.lean ====
section
/-! DEFINITION. The byte buffers BUF and HBUF (10_state.md R64) as sparse lists in one canonical form: reading,
writing, and the form itself. -/

namespace Sys2Proof.Machine

/-- What a byte that nothing has written reads as: the spec leaves the buffers' contents at reset open (R64, R370),
DESIGN CHOICE (log entry 7). -/
def unlistedByte : Byte := 0#8

/-- The byte at address `a`. -/
def Memory.read : Memory → Nat → Byte
  | [], _ => unlistedByte
  | (k, v) :: m, a => if k = a then v else Memory.read m a

/-- Put `(a, b)` in front of `m`, unless an unlisted byte reads as `b` already. -/
def Memory.put (m : Memory) (a : Nat) (b : Byte) : Memory :=
  if b = unlistedByte then m else (a, b) :: m

/-- Write byte `b` at address `a`, keeping the canonical form. -/
def Memory.write : Memory → Nat → Byte → Memory
  | [], a, b => Memory.put [] a b
  | (k, v) :: m, a, b =>
    if a < k then Memory.put ((k, v) :: m) a b
    else if a = k then Memory.put m a b
    else (k, v) :: Memory.write m a b

/-- The `n` bytes that start at address `a`. -/
def Memory.readRange (m : Memory) (a : Nat) : Nat → List Byte
  | 0 => []
  | n + 1 => m.read a :: Memory.readRange m (a + 1) n

/-- Write the bytes `s`, the first at address `a`. -/
def Memory.writeRange (m : Memory) (a : Nat) : List Byte → Memory
  | [] => m
  | b :: s => Memory.writeRange (m.write a b) (a + 1) s

/-- The canonical form from address `lo` on: addresses strictly rising, no listed byte equal to an unlisted one. -/
def Memory.wfFrom (lo : Nat) : Memory → Bool
  | [] => true
  | (k, v) :: m => decide (lo ≤ k) && decide (v ≠ unlistedByte) && Memory.wfFrom (k + 1) m

/-- The canonical form. -/
def Memory.wf (m : Memory) : Bool := Memory.wfFrom 0 m

end Sys2Proof.Machine
end

