-- ==== Sys2Proof/Machine/Ops.lean ====
section
/-! DEFINITION. The named operations over the state: the link port (20_memory.md R89 to R91), the file port (R92), the
host's accesses (45_host_commands.md R303 to R305), the chunk sequence the two controllers share (42_sender.md R203,
R209, 43_receiver.md R244, R249), how a session ends (60_exceptions.md R335), and the reset (70_reset_and_hazards.md
R370 to R372). -/

namespace Sys2Proof.Machine

/-! ### Control-byte values (30_encoding.md R111) that the block transmits -/

def ctrlEOT : Byte := 0x01#8
def ctrlBOT : Byte := 0x02#8
def ctrlSYNC : Byte := 0x04#8
def ctrlSOK : Byte := 0x07#8
def ctrlNOK : Byte := 0x08#8

/-! ### Position, link and host -/

/-- The controller goes to its next primitive at `p`. -/
def State.goto (s : State) (p : Pos) : State := { s with pos := p }

/-- `LinkSend(b)` (20_memory.md R89). -/
def State.linkSend (s : State) (b : Byte) : State := { s with txq := s.txq ++ [b] }

/-- How many bytes a LinkDiscard removes from a queue of `n` bytes: some `k` with `0 ≤ k ≤ n`, left open (R91; log entry
5). -/
def discardCount (draw n : Nat) : Nat := Config.discardDraw draw % (n + 1)

/-- `rxq` after the `draw`-th LinkDiscard (R91). -/
def discardFrom (draw : Nat) : List Byte → List Byte
  | [] => []
  | b :: r => (b :: r).drop (discardCount draw (r.length + 1))

/-- `LinkDiscard()` (R91). -/
def State.linkDiscard (s : State) : State :=
  { s with rxq := discardFrom s.draws s.rxq, draws := s.draws + 1 }

/-- The value `v` of a register read goes to the host (45_host_commands.md R303; log entry 10). -/
def State.hostReturn (s : State) (v : Word) : State := { s with trace := s.trace ++ [v] }

/-- `STATUS.WERR <- 1` (R302, R305). -/
def State.setWerr (s : State) : State := { s with werr := true }

/-- A locked write (R304, R305): while BUSY it only sets WERR. -/
def State.lockedWrite (s : State) (written : State) : State := if s.busy then s.setWerr else written

/-! ### The end of a session: the block's place of an exception (60_exceptions.md R335) -/

/-- `end(o, d)`: the final register updates (R335). BUF and HBUF keep the session's bytes: the spec leaves what they hold
between sessions open (10_state.md R64), DESIGN CHOICE (log entry 7). -/
def State.endSession (s : State) (o : SessionOutcome) (d : Detail) : State :=
  { s with
    outcome := o, res := { s.res with errinfo := d }, pos := .idle, busy := false, done := true, sinkOpened := false }

/-- `raise o(d)` (R335): the open file is closed first; without one the session ends at once. -/
def State.raise (s : State) (o : SessionOutcome) (d : Detail) : State :=
  match s.sess.dir with
  | .send => s.goto (.sClose (.raised o d))
  | .receive => if s.sinkOpened then s.goto (.rClose (.raised o d)) else s.endSession o d

/-- The end of a session whose close was answered: `finish(EXHAUSTED = 1 ? SUCCESS_EXHAUSTED : SUCCESS)`
(42_sender.md R210, 43_receiver.md R251), or the outcome raised before the close (R335). -/
def State.endAfterClose (s : State) : Ending → State
  | .finish => s.endSession (if s.exhausted then .successExhausted else .success) .noError
  | .raised o d => s.endSession o d

/-! ### The start of a session (45_host_commands.md R300, R301) -/

/-- What an accepted SEND or RECEIVE does before its start checks: the session-result registers and the last session's
flags are cleared (R62, R300, R301). -/
def State.acceptStart (s : State) (d : Direction) : State :=
  { s with res := Results.cleared, done := false, outcome := .noOutcome, exhausted := false, dir := d }

/-- `config_error(d)` (R300): a START refused by its start checks; BUSY and STATE stay as they are. -/
def State.configError (s : State) (d : Detail) : State :=
  { s with outcome := .configError, res := { s.res with errinfo := d }, done := true }

/-- The part of the snapshot that both directions take from the registers (42_sender.md R200, 43_receiver.md R240). -/
def State.snapshot (s : State) (d : Direction) : Sess :=
  { s.sess with
    dir := d, cfg := s.cfgNow, rc := s.retrycount, hstrict := s.hdrStrict, rstrict := s.retryStrict }

/-- The sizes of a session: `fs`, `cs`, `P`, NUM_FULL and REM_SIZE (42_sender.md R200, 43_receiver.md R243). -/
def State.deriveCounts (s : State) (fs cs : Word) : State :=
  { s with
    sess := { s.sess with fs := fs, cs := cs, p := cs - 4#32 }
    res := { s.res with numFull := fs / (cs - 4#32), remSize := fs % (cs - 4#32) } }

/-! ### The chunk sequence (42_sender.md R203, R209, 43_receiver.md R244, R249) -/

/-- Chunk `i` starts at position `p`: SESS.len, CHUNK_IDX and RETRY_CNT. -/
def State.startChunk (s : State) (i : Word) (p : Pos) : State :=
  { s with
    sess := { s.sess with len := if i < s.res.numFull then s.sess.p else s.res.remSize }
    res := { s.res with chunkIdx := i, retryCnt := 0#8 }
    pos := p }

/-- The chunk is done: chunk `i + 1` starts at `again`, or after the remainder chunk the controller goes to `close`. -/
def State.nextChunk (s : State) (again close : Pos) : State :=
  if s.res.chunkIdx < s.res.numFull then s.startChunk (s.res.chunkIdx + 1#32) again else s.goto close

/-- A NOK is counted in RETRY_CNT and NOK_TOTAL (R209, R249). -/
def State.countNok (s : State) : State :=
  { s with res := { s.res with retryCnt := s.res.retryCnt + 1#8, nokTotal := s.res.nokTotal + 1#32 } }

/-- The verdict NOK (R209, R249): the next attempt at `again`, or the exhaustion of the chunk, which aborts in strict
mode and goes on with `advance` in lenient mode. -/
def State.nokVerdict (s : State) (again : Pos) (advance : State → State) : State :=
  let c := s.countNok
  if c.res.retryCnt < c.sess.rc then c.goto again
  else
    let x := { c with exhausted := true }
    if c.sess.rstrict then x.raise .retryExhausted .retryLimit else advance x

/-- The number of bytes of a chunk attempt: `len + 4` (30_encoding.md R116). -/
def State.chunkBytes (s : State) : Nat := s.sess.len.toNat + 4

/-! ### The file port (20_memory.md R92) -/

/-- The answers that a request admits (R92). -/
def FileRequest.admits : FileRequest → FileAnswer → Bool
  | .srcRead _ n, .data s => s.length == n.toNat
  | .srcRead _ _, .ioErr => true
  | .srcClose, .ack => true
  | .sinkOpen _, .ack => true
  | .sinkOpen _, .ioErr => true
  | .sinkAppend _, .ack => true
  | .sinkAppend _, .ioErr => true
  | .sinkClose, .ack => true
  | _, _ => false

/-- The host's output file after it answers `r` with `x` (R92; log entry 14). -/
def sinkAfter (r : FileRequest) (x : FileAnswer) (file : List Byte) : List Byte :=
  match r, x with
  | .sinkOpen _, .ack => []
  | .sinkAppend s, .ack => file ++ s
  | _, _ => file

/-- A request is issued, and the controller waits at `p` (R92, R314). -/
def State.issue (s : State) (r : FileRequest) (p : Pos) : State := { s with pending := some r, pos := p }

/-- The request is answered and done. -/
def State.portDone (s : State) : State := { s with pending := none, answer := none }

/-- The block takes the host's answer (45_host_commands.md R314); without one it holds. -/
def State.takeAnswer (s : State) (k : State → FileAnswer → Result) : Result :=
  match s.answer with
  | none => .next s
  | some x =>
    match s.pending with
    | none => .refused .answerWithoutRequest
    | some r => if r.admits x then k s.portDone x else .refused .answerNotAdmitted

/-- The host answers the pending request (R92); an answer the request does not admit, or that no request waits for, is
refused (R92, 93_implementation_defined.md). -/
def State.hostAnswer (s : State) (x : FileAnswer) : Result :=
  match s.pending, s.answer with
  | some r, none =>
    if r.admits x then .next { s with answer := some x, sinkFile := sinkAfter r x s.sinkFile }
    else .refused .answerNotAdmitted
  | _, _ => .refused .answerWithoutRequest

/-! ### The peer and the reset -/

/-- The peer delivers a byte (20_memory.md R90). -/
def State.deliver (s : State) (b : Byte) : State := { s with rxq := s.rxq ++ [b] }

/-- The reset of the whole block (70_reset_and_hazards.md R370 to R372): every register and the controller take their
reset values; the link's queues, the host's file and what the host has read are not the block's and stay (log entry
16). -/
def State.resetBlock (s : State) : State :=
  { State.reset with
    params := s.params
    retrycount := s.params.retrycountDefault
    chunkSize := s.params.chunkSizeDefault
    rxq := s.rxq
    txq := s.txq
    sinkFile := s.sinkFile
    draws := s.draws
    agenda := s.agenda
    trace := s.trace }

/-! ### Host accesses (20_memory.md R81, R82, 30_encoding.md R118) -/

/-- An admitted access: 32 bits wide, aligned, inside the 256-byte window (R82). -/
def HostAccess.admitted (a : HostAccess) : Bool :=
  decide (a.size = 4) && decide (a.offset % 4 = 0) && decide (a.offset < 0x100)

/-- The address of an access on the host's bus (R81, R97). -/
def HostAccess.address (a : HostAccess) : Nat := Config.regBase + a.offset

/-- The descriptor of an admitted access (R118): DATA is 0 for a read. -/
def HostAccess.code (a : HostAccess) : Code :=
  .bus (busDesc a.write (BitVec.ofNat 8 a.offset) (if a.write then a.data else 0#32))

/-- The access that a 41-bit descriptor stands for (R118). -/
def HostAccess.ofDesc (d : BitVec 41) : HostAccess where
  write := descWrite d
  offset := (descOff d).toNat
  size := 4
  data := descData d


end Sys2Proof.Machine
end

