-- ==== Sys2Proof/Machine/Receiver.lean ====
section
/-! DEFINITION. The receiver controller (43_receiver.md R240 to R251): its entry, what ends each of its handshake
waits, and its block steps, in the form of Machine/Sender.lean. -/

namespace Sys2Proof.Machine

/-- R240: the receiver's entry, in the step that accepts RECEIVE. -/
def receiverEntry (s : State) : State :=
  { s with sess := s.snapshot .receive, sinkOpened := false }.goto .rAwaitBot

/-! ### What ends the handshake waits -/

/-- R241: BOT ends the wait; its echo is next. -/
def receiverBotSeen (s : State) : State := s.goto .rEchoBot

/-- R247: SYNC ends the wait; the verdict is next. -/
def receiverSyncSeen (s : State) : State := s.goto .rSendVerdict

/-! ### Block steps -/

/-- R241: `LinkSend(BOT)`, the echo. -/
def receiverEchoBot (s : State) : Result := .next ((s.linkSend ctrlBOT).goto (.rHeader 0))

/-- R242: the report of the 88 bytes `h`, whether or not they decode. -/
def receiverReport (s : State) (h : List Byte) : State :=
  { s with
    res := { s.res with
      rxFileSize := fromLe32 h 0, rxChunkSize := fromLe32 h 4, rxCrcx := fromLe32 h 8, rxPoly := fromLe32 h 76,
      rxInitx := fromLe32 h 80, rxHdrCrc := fromLe32 h 84, rxHdrCalc := headerCalc s.sess.cfg h }
    name := nameOfBytes (headerNameField h) }

/-- R242, R243: the 88 header bytes are in HBUF: report, then accept or refuse. -/
def receiverHeaderDone (s : State) : State :=
  let h := s.hbuf.readRange 0 hdrSize
  let t := receiverReport s h
  match decodeHeader s.params.chunkBufSize s.sess.cfg s.sess.hstrict h with
  | .error reason => t.raise .headerError reason
  | .ok r => (t.deriveCounts r.fileSize r.chunkSize).goto .rOpen

/-- R242: header byte `k` is `LinkRecv()`; every byte value is data (20_memory.md R98). -/
def receiverHeader (s : State) (k : Nat) : Result :=
  match s.rxq with
  | [] => .next s
  | b :: r =>
    if k < hdrSize then
      let t := { s with rxq := r, hbuf := s.hbuf.write k b }
      .next (if k + 1 < hdrSize then t.goto (.rHeader (k + 1)) else receiverHeaderDone t)
    else .fault .hbufRange

/-- R243: `SinkOpen(name)` is issued, with the header's name. -/
def receiverOpen (s : State) : Result :=
  .next (s.issue (.sinkOpen (untilNul (headerNameField (s.hbuf.readRange 0 hdrSize)))) .rOpenAns)

/-- R243: SinkOpen's answer is taken; the chunk sequence starts (R244). -/
def receiverOpenAnswer (s : State) (x : FileAnswer) : Result :=
  match x with
  | .ack => .next ({ s with sinkOpened := true }.startChunk 0#32 .rSendEot)
  | .ioErr => .next (s.raise .localIoError .sinkOpen)
  | .data _ => .refused .answerNotAdmitted

/-- R245: `LinkSend(EOT)`. -/
def receiverSendEot (s : State) : Result := .next ((s.linkSend ctrlEOT).goto (.rChunk 0))

/-- R246: the check of the chunk in BUF, in the step of its last byte. -/
def receiverCheck (s : State) : State :=
  let payload := s.buf.readRange 0 s.sess.len.toNat
  let trailer := fromLe32 (s.buf.readRange s.sess.len.toNat 4)
  { s with sess := { s.sess with ok := decide (checksum s.sess.cfg payload = trailer) }, pos := .rSendSync }

/-- R245: chunk byte `k` is `LinkRecv()`; every byte value is data (20_memory.md R98). -/
def receiverChunk (s : State) (k : Nat) : Result :=
  match s.rxq with
  | [] => .next s
  | b :: r =>
    if k < s.params.chunkBufSize then
      let t := { s with rxq := r, buf := s.buf.write k b }
      .next (if k + 1 < s.chunkBytes then t.goto (.rChunk (k + 1)) else receiverCheck t)
    else .fault .bufRange

/-- R247: `LinkSend(SYNC)`. -/
def receiverSendSync (s : State) : Result := .next ((s.linkSend ctrlSYNC).goto .rWaitSync)

/-- R248, R249: `LinkSend(SOK)` on a match, `LinkSend(NOK)` on a mismatch. -/
def receiverSendVerdict (s : State) : Result :=
  if s.sess.ok then .next ((s.linkSend ctrlSOK).goto .rCommit)
  else .next ((s.linkSend ctrlNOK).nokVerdict .rSendEot fun t => t.goto .rCommit)

/-- R250: `SinkAppend(BUF[0 : len])` is issued. -/
def receiverCommit (s : State) : Result :=
  if s.chunkBytes ≤ s.params.chunkBufSize then
    .next (s.issue (.sinkAppend (s.buf.readRange 0 s.sess.len.toNat)) .rCommitAns)
  else .fault .bufRange

/-- R250, R244: SinkAppend's answer is taken. -/
def receiverCommitAnswer (s : State) (x : FileAnswer) : Result :=
  match x with
  | .ack => .next (s.nextChunk .rSendEot (.rClose .finish))
  | .ioErr => .next (s.raise .localIoError .sinkAppend)
  | .data _ => .refused .answerNotAdmitted

/-- R251, R335: `SinkClose()` is issued. -/
def receiverClose (s : State) (e : Ending) : Result := .next (s.issue .sinkClose (.rCloseAns e))

/-- R251, R335: SinkClose's answer is taken, and the session ends. -/
def receiverCloseAnswer (s : State) (e : Ending) (x : FileAnswer) : Result :=
  match x with
  | .ack => .next (s.endAfterClose e)
  | .data _ | .ioErr => .refused .answerNotAdmitted

end Sys2Proof.Machine
end

