-- ==== Sys2Proof/Machine/Sender.lean ====
section
/-! DEFINITION. The sender controller (42_sender.md R200 to R210): its entry, what ends each of its handshake waits,
and its block steps. A definition named `sender<Step>` is one step of 45_host_commands.md R314, with the local
computations up to the next primitive. -/

namespace Sys2Proof.Machine

/-- R200: the sender's entry, in the step that accepts SEND. -/
def senderEntry (s : State) : State :=
  ({ s with sess := s.snapshot .send, sinkOpened := false }.deriveCounts s.fileSize s.chunkSize).goto .sSendBot

/-- R176: the header the sender sends. -/
def senderHeaderRecord (s : State) : Header where
  fileSize := s.sess.fs
  chunkSize := s.sess.cs
  crcX := s.sess.cfg.xorout
  fileName := untilNul (nameBytes s.name)
  poly := s.sess.cfg.poly
  initX := s.sess.cfg.init
  crcCheck := 0#32

/-- R203: after a chunk is done. -/
def senderNextChunk (s : State) : State := s.nextChunk .sLoad (.sClose .finish)

/-! ### What ends the handshake waits -/

/-- R201, R202: BOT ends the wait for the peer; the header is built. -/
def senderPeerReady (s : State) : State :=
  { s with hbuf := s.hbuf.writeRange 0 (encodeHeader (senderHeaderRecord s) s.sess.cfg), pos := .sHeader 0 }

/-- R206: SYNC ends the SYNC wait, from whatever sender (log entry 20); its echo is next. -/
def senderSyncSeen (s : State) : State := s.goto .sEchoSync

/-- R208: the verdict SOK. -/
def senderSok (s : State) : State := senderNextChunk s

/-- R209: the verdict NOK. -/
def senderNok (s : State) : State := s.nokVerdict .sDiscard senderNextChunk

/-! ### Block steps -/

/-- R201: `LinkSend(BOT)`. -/
def senderSendBot (s : State) : Result := .next ((s.linkSend ctrlBOT).goto .sAwaitPeer)

/-- R202: `LinkSend(HBUF[k])`; after byte 87 the chunk sequence starts (R203). -/
def senderHeader (s : State) (k : Nat) : Result :=
  if k < hdrSize then
    let t := s.linkSend (s.hbuf.read k)
    .next (if k + 1 < hdrSize then t.goto (.sHeader (k + 1)) else t.startChunk 0#32 .sLoad)
  else .fault .hbufRange

/-- R204: `SrcRead(i * P, len)` is issued. -/
def senderLoad (s : State) : Result := .next (s.issue (.srcRead (s.res.chunkIdx * s.sess.p) s.sess.len) .sLoadAns)

/-- R204: the chunk in BUF: the payload, then its trailer. -/
def senderChunkLoaded (s : State) (payload : List Byte) : Result :=
  if s.chunkBytes ≤ s.params.chunkBufSize then
    let trailer := le32 (checksum s.sess.cfg payload)
    .next { s with buf := (s.buf.writeRange 0 payload).writeRange s.sess.len.toNat trailer, pos := .sDiscard }
  else .fault .bufRange

/-- R204: SrcRead's answer is taken. -/
def senderLoadAnswer (s : State) (x : FileAnswer) : Result :=
  match x with
  | .data payload => if payload.length = s.sess.len.toNat then senderChunkLoaded s payload else .refused .answerNotAdmitted
  | .ioErr => .next (s.raise .localIoError .srcRead)
  | .ack => .refused .answerNotAdmitted

/-- R205: `LinkDiscard()`. -/
def senderDiscard (s : State) : Result := .next (s.linkDiscard.goto (.sChunk 0))

/-- R205: `LinkSend(BUF[k])`; after the last byte the sender waits for SYNC (R206). -/
def senderChunk (s : State) (k : Nat) : Result :=
  if k < s.params.chunkBufSize then
    let t := s.linkSend (s.buf.read k)
    .next (t.goto (if k + 1 < s.chunkBytes then .sChunk (k + 1) else .sWaitSync))
  else .fault .bufRange

/-- R206: `LinkSend(SYNC)`, the echo. -/
def senderEchoSync (s : State) : Result := .next ((s.linkSend ctrlSYNC).goto .sWaitVerdict)

/-- R210, R335: `SrcClose()` is issued. -/
def senderClose (s : State) (e : Ending) : Result := .next (s.issue .srcClose (.sCloseAns e))

/-- R210, R335: SrcClose's answer is taken, and the session ends. -/
def senderCloseAnswer (s : State) (e : Ending) (x : FileAnswer) : Result :=
  match x with
  | .ack => .next (s.endAfterClose e)
  | .data _ | .ioErr => .refused .answerNotAdmitted

end Sys2Proof.Machine
end

