-- ==== Sys2Proof/Machine/Commands.lean ====
section
/-! DEFINITION. The commands written to CMD (45_host_commands.md R300 to R302, 40_crc32.md R146). -/

namespace Sys2Proof.Machine

/-- The start checks of SEND in their order (R300, 60_exceptions.md R334); RECEIVE makes the third alone (R301). -/
def sendCheck (s : State) : Option Detail :=
  if 0x7FFFFFFF < s.fileSize.toNat then some .fileSizeRange
  else if s.chunkSize.toNat < 5 ∨ s.params.chunkBufSize < s.chunkSize.toNat then some .chunkSizeRange
  else if s.retrycount = 0#8 then some .retrycountZero
  else if hasNul (nameBytes s.name) = false then some .nameTooLong
  else none

/-- SEND when not BUSY (R300). -/
def sendStart (s : State) : State :=
  let t := s.acceptStart .send
  match sendCheck s with
  | some d => t.configError d
  | none => senderEntry { t with busy := true }

/-- RECEIVE when not BUSY (R301). -/
def receiveStart (s : State) : State :=
  let t := s.acceptStart .receive
  if s.retrycount = 0#8 then t.configError .retrycountZero else receiverEntry { t with busy := true }

/-- SEND (R300). -/
def execSend (s : State) : Result := .next (s.lockedWrite (sendStart s))

/-- RECEIVE (R301). -/
def execReceive (s : State) : Result := .next (s.lockedWrite (receiveStart s))

/-- CRC_CLEAR (40_crc32.md R146): accepted while BUSY too. -/
def execCrcClear (s : State) : Result := .next { s with crcAcc := s.crcInit }

/-- CMD_RESERVED (R302): only WERR. -/
def execCmdReserved (_data : Word) (s : State) : Result := .next s.setWerr

end Sys2Proof.Machine
end

