-- ==== Sys2Proof/Machine/ControlBytes.lean ====
section
/-! DEFINITION. The control bytes (44_control_bytes.md R280 to R288): what the block does with a byte it has received
at a handshake wait. The step has already taken the byte from `rxq`. Outside the five waits a byte is no control byte
(20_memory.md R98) and these meanings leave the state as it is; the step never runs them there (log entry 12). -/

namespace Sys2Proof.Machine

/-- The byte is dropped, and the same wait goes on (30_encoding.md R112). -/
def State.discardByte (s : State) : State := s

/-- EOT (R280): no wait expects it. -/
def execEot (s : State) : Result := .next s.discardByte

/-- BOT (R281). -/
def execBot (s : State) : Result :=
  .next <| match s.pos with
    | .sAwaitPeer => senderPeerReady s
    | .rAwaitBot => receiverBotSeen s
    | _ => s.discardByte

/-- LOK (R282): no meaning. -/
def execLok (s : State) : Result := .next s.discardByte

/-- SYNC (R283). At the sender's wait any 0x04 ends the wait, wherever it comes from (42_sender.md R206); R281 and
70_reset_and_hazards.md R379 say that two facing senders hold there, which a 0x04 in the other's header contradicts: the
model follows R206 (DEDUCED, log entry 20). -/
def execSync (s : State) : Result :=
  .next <| match s.pos with
    | .sWaitSync => senderSyncSeen s
    | .rWaitSync => receiverSyncSeen s
    | _ => s.discardByte

/-- OK (R284): not a verdict. -/
def execOk (s : State) : Result := .next s.discardByte

/-- RSD (R285): asks for no resend. -/
def execRsd (s : State) : Result := .next s.discardByte

/-- SOK (R286). -/
def execSok (s : State) : Result :=
  .next <| match s.pos with
    | .sWaitVerdict => senderSok s
    | _ => s.discardByte

/-- NOK (R287). -/
def execNok (s : State) : Result :=
  .next <| match s.pos with
    | .sWaitVerdict => senderNok s
    | _ => s.discardByte

/-- CTRL_OTHER (R288): any other byte, whatever its value. -/
def execCtrlOther (_b : Byte) (s : State) : Result := .next s.discardByte

end Sys2Proof.Machine
end

