-- ==== Sys2Proof/Machine/RegRead.lean ====
section
/-! DEFINITION. The register reads (45_host_commands.md R303, 40_crc32.md R147, R148). A read changes nothing of the
block (20_memory.md R84); its value goes to the host (log entry 10). -/

namespace Sys2Proof.Machine

/-- RD_CTRL: its reserved bits read 0 (10_state.md R33, R61). -/
def execRdCtrl (s : State) : Result := .next (s.hostReturn (readExtend s.ctrl))

/-- RD_CMD: write-only (10_state.md R34). -/
def execRdCmd (s : State) : Result := .next (s.hostReturn 0#32)

/-- RD_STATUS: 10_state.md R35. -/
def execRdStatus (s : State) : Result := .next (s.hostReturn s.statusWord)

/-- RD_RETRYCOUNT: 10_state.md R37. -/
def execRdRetrycount (s : State) : Result := .next (s.hostReturn (readExtend s.retrycount))

/-- RD_CHUNK_SIZE: 10_state.md R38. -/
def execRdChunkSize (s : State) : Result := .next (s.hostReturn s.chunkSize)

/-- RD_FILE_SIZE: 10_state.md R39. -/
def execRdFileSize (s : State) : Result := .next (s.hostReturn s.fileSize)

/-- RD_CRC_POLY: 10_state.md R40. -/
def execRdCrcPoly (s : State) : Result := .next (s.hostReturn s.crcPoly)

/-- RD_CRC_INIT: 10_state.md R41. -/
def execRdCrcInit (s : State) : Result := .next (s.hostReturn s.crcInit)

/-- RD_CRC_XOROUT: 10_state.md R42. -/
def execRdCrcXorout (s : State) : Result := .next (s.hostReturn s.crcXorout)

/-- RD_CRC_DIN: write-only (10_state.md R43). -/
def execRdCrcDin (s : State) : Result := .next (s.hostReturn 0#32)

/-- RD_CRC_ACC: CRC_RAW (40_crc32.md R148). -/
def execRdCrcAcc (s : State) : Result := .next (s.hostReturn s.crcAcc)

/-- RD_CRC_OUT: CRC_RESULT (40_crc32.md R147), computed at the read. -/
def execRdCrcOut (s : State) : Result := .next (s.hostReturn (crcFinal s.cfgNow s.crcAcc))

/-- RD_CHUNK_IDX: 10_state.md R46. -/
def execRdChunkIdx (s : State) : Result := .next (s.hostReturn s.res.chunkIdx)

/-- RD_RETRY_CNT: 10_state.md R47. -/
def execRdRetryCnt (s : State) : Result := .next (s.hostReturn (readExtend s.res.retryCnt))

/-- RD_NUM_FULL: 10_state.md R48. -/
def execRdNumFull (s : State) : Result := .next (s.hostReturn s.res.numFull)

/-- RD_REM_SIZE: 10_state.md R49. -/
def execRdRemSize (s : State) : Result := .next (s.hostReturn s.res.remSize)

/-- RD_RX_FILE_SIZE: 10_state.md R50. -/
def execRdRxFileSize (s : State) : Result := .next (s.hostReturn s.res.rxFileSize)

/-- RD_RX_CHUNK_SIZE: 10_state.md R51. -/
def execRdRxChunkSize (s : State) : Result := .next (s.hostReturn s.res.rxChunkSize)

/-- RD_RX_CRCX: 10_state.md R52. -/
def execRdRxCrcx (s : State) : Result := .next (s.hostReturn s.res.rxCrcx)

/-- RD_RX_POLY: 10_state.md R53. -/
def execRdRxPoly (s : State) : Result := .next (s.hostReturn s.res.rxPoly)

/-- RD_RX_INITX: 10_state.md R54. -/
def execRdRxInitx (s : State) : Result := .next (s.hostReturn s.res.rxInitx)

/-- RD_RX_HDR_CRC: 10_state.md R55. -/
def execRdRxHdrCrc (s : State) : Result := .next (s.hostReturn s.res.rxHdrCrc)

/-- RD_RX_HDR_CALC: 10_state.md R56. -/
def execRdRxHdrCalc (s : State) : Result := .next (s.hostReturn s.res.rxHdrCalc)

/-- RD_NOK_TOTAL: 10_state.md R57. -/
def execRdNokTotal (s : State) : Result := .next (s.hostReturn s.res.nokTotal)

/-- RD_ERRINFO: 10_state.md R58. -/
def execRdErrinfo (s : State) : Result := .next (s.hostReturn (readExtend s.res.errinfo.code))

/-- RD_NAME (10_state.md R59). -/
def execRdName (k : BitVec 4) (s : State) : Result := .next (s.hostReturn (nameWord s.name k))

/-- RD_UNMAPPED: reads 0 (10_state.md R60). -/
def execRdUnmapped (_off : BitVec 8) (s : State) : Result := .next (s.hostReturn 0#32)

end Sys2Proof.Machine
end

