-- ==== Sys2Proof/Machine/RegWrite.lean ====
section
/-! DEFINITION. The register writes (45_host_commands.md R304 to R312, 40_crc32.md R145). -/

namespace Sys2Proof.Machine

/-- CRC_UPDATE (40_crc32.md R145): accepted while BUSY too. -/
def execCrcUpdate (data : Word) (s : State) : Result :=
  .next { s with crcAcc := crcStep s.cfgNow s.crcAcc (crcDinOperand data) }

/-- WR_CTRL (R307). -/
def execWrCtrl (data : Word) (s : State) : Result := .next (s.lockedWrite { s with ctrl := ctrlOperand data })

/-- WR_STATUS (R306): DONE and WERR are W1C; every other bit of the data is ignored. -/
def execWrStatus (data : Word) (s : State) : Result :=
  .next { s with done := clearedBy s.done (data.getLsbD 1), werr := clearedBy s.werr (data.getLsbD 2) }

/-- WR_RETRYCOUNT (R308). -/
def execWrRetrycount (data : Word) (s : State) : Result :=
  .next (s.lockedWrite { s with retrycount := retrycountOperand data })

/-- WR_CHUNK_SIZE (R309). -/
def execWrChunkSize (data : Word) (s : State) : Result := .next (s.lockedWrite { s with chunkSize := data })

/-- WR_FILE_SIZE (R309). -/
def execWrFileSize (data : Word) (s : State) : Result := .next (s.lockedWrite { s with fileSize := data })

/-- WR_CRC_POLY (R310). -/
def execWrCrcPoly (data : Word) (s : State) : Result := .next (s.lockedWrite { s with crcPoly := data })

/-- WR_CRC_INIT (R310). -/
def execWrCrcInit (data : Word) (s : State) : Result := .next (s.lockedWrite { s with crcInit := data })

/-- WR_CRC_XOROUT (R310). -/
def execWrCrcXorout (data : Word) (s : State) : Result := .next (s.lockedWrite { s with crcXorout := data })

/-- WR_NAME (R311). -/
def execWrName (k : BitVec 4) (data : Word) (s : State) : Result :=
  .next (s.lockedWrite { s with name := nameUpdate s.name k data })

/-- WR_IGNORED (R312): no effect, and no WERR. -/
def execWrIgnored (_off : BitVec 8) (_data : Word) (s : State) : Result := .next s

end Sys2Proof.Machine
end

