-- ==== Sys2Proof/Machine/Dispatch.lean ====
section
/-! DEFINITION. The dispatch: one arm per constructor of Instr, each one direct call of its meaning. -/

namespace Sys2Proof.Machine

def exec (i : Instr) (s : State) : Host.Outcome State Fault Refusal :=
  match i with
  | .eot => Sys2Proof.Machine.execEot s
  | .bot => Sys2Proof.Machine.execBot s
  | .lok => Sys2Proof.Machine.execLok s
  | .sync => Sys2Proof.Machine.execSync s
  | .ok => Sys2Proof.Machine.execOk s
  | .rsd => Sys2Proof.Machine.execRsd s
  | .sok => Sys2Proof.Machine.execSok s
  | .nok => Sys2Proof.Machine.execNok s
  | .ctrlOther b => Sys2Proof.Machine.execCtrlOther b s
  | .send => Sys2Proof.Machine.execSend s
  | .receive => Sys2Proof.Machine.execReceive s
  | .crcClear => Sys2Proof.Machine.execCrcClear s
  | .cmdReserved data => Sys2Proof.Machine.execCmdReserved data s
  | .crcUpdate data => Sys2Proof.Machine.execCrcUpdate data s
  | .wrCtrl data => Sys2Proof.Machine.execWrCtrl data s
  | .wrStatus data => Sys2Proof.Machine.execWrStatus data s
  | .wrRetrycount data => Sys2Proof.Machine.execWrRetrycount data s
  | .wrChunkSize data => Sys2Proof.Machine.execWrChunkSize data s
  | .wrFileSize data => Sys2Proof.Machine.execWrFileSize data s
  | .wrCrcPoly data => Sys2Proof.Machine.execWrCrcPoly data s
  | .wrCrcInit data => Sys2Proof.Machine.execWrCrcInit data s
  | .wrCrcXorout data => Sys2Proof.Machine.execWrCrcXorout data s
  | .wrName k data => Sys2Proof.Machine.execWrName k data s
  | .wrIgnored off data => Sys2Proof.Machine.execWrIgnored off data s
  | .rdCtrl => Sys2Proof.Machine.execRdCtrl s
  | .rdCmd => Sys2Proof.Machine.execRdCmd s
  | .rdStatus => Sys2Proof.Machine.execRdStatus s
  | .rdRetrycount => Sys2Proof.Machine.execRdRetrycount s
  | .rdChunkSize => Sys2Proof.Machine.execRdChunkSize s
  | .rdFileSize => Sys2Proof.Machine.execRdFileSize s
  | .rdCrcPoly => Sys2Proof.Machine.execRdCrcPoly s
  | .rdCrcInit => Sys2Proof.Machine.execRdCrcInit s
  | .rdCrcXorout => Sys2Proof.Machine.execRdCrcXorout s
  | .rdCrcDin => Sys2Proof.Machine.execRdCrcDin s
  | .rdCrcAcc => Sys2Proof.Machine.execRdCrcAcc s
  | .rdCrcOut => Sys2Proof.Machine.execRdCrcOut s
  | .rdChunkIdx => Sys2Proof.Machine.execRdChunkIdx s
  | .rdRetryCnt => Sys2Proof.Machine.execRdRetryCnt s
  | .rdNumFull => Sys2Proof.Machine.execRdNumFull s
  | .rdRemSize => Sys2Proof.Machine.execRdRemSize s
  | .rdRxFileSize => Sys2Proof.Machine.execRdRxFileSize s
  | .rdRxChunkSize => Sys2Proof.Machine.execRdRxChunkSize s
  | .rdRxCrcx => Sys2Proof.Machine.execRdRxCrcx s
  | .rdRxPoly => Sys2Proof.Machine.execRdRxPoly s
  | .rdRxInitx => Sys2Proof.Machine.execRdRxInitx s
  | .rdRxHdrCrc => Sys2Proof.Machine.execRdRxHdrCrc s
  | .rdRxHdrCalc => Sys2Proof.Machine.execRdRxHdrCalc s
  | .rdNokTotal => Sys2Proof.Machine.execRdNokTotal s
  | .rdErrinfo => Sys2Proof.Machine.execRdErrinfo s
  | .rdName k => Sys2Proof.Machine.execRdName k s
  | .rdUnmapped off => Sys2Proof.Machine.execRdUnmapped off s

end Sys2Proof.Machine
end

