-- ==== Sys2Proof/Machine/Block.lean ====
section
/-! DEFINITION. A turn of the block (45_host_commands.md R314) and a turn of the host on its bus: where a byte at a
handshake wait, or an access's descriptor, is fetched, decoded and run. -/

namespace Sys2Proof.Machine

/-- A handshake wait (20_memory.md R90, R98): `LinkRecv()` takes the byte at the head of `rxq`, and the byte is run as
a control byte; with an empty `rxq` the block holds. -/
def recvControl (s : State) : Result :=
  match s.rxq with
  | [] => .next s
  | b :: r => exec (decodeCtrl b) { s with rxq := r }

/-- One step of the block at its position (R314); an idle or holding block changes nothing (60_exceptions.md R341,
R342; log entry 2). -/
def blockStep (s : State) : Result :=
  match s.pos with
  | .idle => .next s
  | .sSendBot => senderSendBot s
  | .sAwaitPeer => recvControl s
  | .sHeader k => senderHeader s k
  | .sLoad => senderLoad s
  | .sLoadAns => s.takeAnswer senderLoadAnswer
  | .sDiscard => senderDiscard s
  | .sChunk k => senderChunk s k
  | .sWaitSync => recvControl s
  | .sEchoSync => senderEchoSync s
  | .sWaitVerdict => recvControl s
  | .sClose e => senderClose s e
  | .sCloseAns e => s.takeAnswer fun t x => senderCloseAnswer t e x
  | .rAwaitBot => recvControl s
  | .rEchoBot => receiverEchoBot s
  | .rHeader k => receiverHeader s k
  | .rOpen => receiverOpen s
  | .rOpenAns => s.takeAnswer receiverOpenAnswer
  | .rSendEot => receiverSendEot s
  | .rChunk k => receiverChunk s k
  | .rSendSync => receiverSendSync s
  | .rWaitSync => recvControl s
  | .rSendVerdict => receiverSendVerdict s
  | .rCommit => receiverCommit s
  | .rCommitAns => s.takeAnswer receiverCommitAnswer
  | .rClose e => receiverClose s e
  | .rCloseAns e => s.takeAnswer fun t x => receiverCloseAnswer t e x

/-- One host access (20_memory.md R82, R83): an admitted access is decoded and run whole, any other is refused. -/
def hostAccess (a : HostAccess) (s : State) : Result :=
  if a.admitted then
    match decode a.code with
    | .ok i => exec i s
    | .error _ => .refused .accessNotAdmitted
  else .refused .accessNotAdmitted

/-- One turn of the interleaving (R94). -/
def takeTurn (t : Turn) (s : State) : Result :=
  match t with
  | .block => blockStep s
  | .access a => hostAccess a s
  | .answer x => s.hostAnswer x
  | .deliver b => .next (s.deliver b)
  | .reset => .next s.resetBlock

/-- A state whose controller is at a handshake wait: `s` itself, or `s` after RECEIVE's entry (43_receiver.md R240). -/
def atHandshakeWait (s : State) : State :=
  if s.pos.handshakeWait then s else receiverEntry { s.acceptStart .receive with busy := true }

/-- The access that the low 41 bits of `w` describe (30_encoding.md R118); a `w` with a higher bit describes none that
is admitted. -/
def accessOfWord (w : Nat) : HostAccess :=
  { HostAccess.ofDesc (BitVec.ofNat 41 w) with size := if w < 2 ^ 41 then 4 else 0 }

/-- `s` with the code word `w` of `nbits` bits in front of the decoder (log entry 3): a control byte at the head of
`rxq` with the controller at a handshake wait and the block's turn next, or a host access as the next turn. -/
def placeFetchWord (s : State) (nbits w : Nat) : State :=
  if nbits ≤ 8 then
    let t := atHandshakeWait s
    { t with rxq := BitVec.ofNat 8 w :: t.rxq, agenda := .block :: t.agenda }
  else { s with agenda := .access (accessOfWord w) :: s.agenda }

end Sys2Proof.Machine
end

