-- ==== Sys2Proof/Machine/Step.lean ====
section
/-! DEFINITION. The step: the next turn of the interleaving (20_memory.md R94). With an empty agenda it is the
block's (log entry 1). -/

namespace Sys2Proof.Machine

/-- One step of the machine. -/
def step (s : State) : Host.Outcome State Fault Refusal :=
  match s.agenda with
  | [] => takeTurn .block s
  | t :: rest => takeTurn t { s with agenda := rest }

/-- `s` with the instruction whose bits are `w` stored where the next step takes it from (log entry 3). -/
def State.withFetchWord (s : State) (nbits w : Nat) : State := placeFetchWord s nbits w

end Sys2Proof.Machine
end

