-- ==== Sys2Proof/Machine/HostProgram.lean ====
section
/-! DEFINITION. The lines of a host program and its pseudo-instructions (30_encoding.md R122, R123), as the host
accesses they stand for. They are notation of the host's: the block sees the accesses only. -/

namespace Sys2Proof.Machine

/-- One line of a host program (R122). -/
inductive HostLine where
  /-- `WR reg, imm32` -/
  | wr (off : BitVec 8) (imm : Word)
  /-- `RD reg` -/
  | rd (off : BitVec 8)
  /-- `POLL reg, mask, value`: reads until `(result & mask) = value` -/
  | poll (off : BitVec 8) (mask value : Word)
  deriving DecidableEq, Repr

/-- A 32-bit write at `off` (R122). -/
def writeAccess (off : BitVec 8) (imm : Word) : HostAccess where
  write := true
  offset := off.toNat
  size := 4
  data := imm

/-- A 32-bit read at `off` (R122). -/
def readAccess (off : BitVec 8) : HostAccess where
  write := false
  offset := off.toNat
  size := 4
  data := 0#32

/-- The accesses of a line; a POLL is a sequence of reads whose number, `reads`, depends on timing (R122; log entry
18). -/
def HostLine.accesses (reads : Nat) : HostLine → List HostAccess
  | .wr off imm => [writeAccess off imm]
  | .rd off => [readAccess off]
  | .poll off _ _ => List.replicate reads (readAccess off)

/-- A POLL stops at the read whose result is `v` (R122). -/
def pollStops (mask value v : Word) : Bool := (v &&& mask) == value

/-- `SETNAME "s"`: sixteen writes of the name's words (R123). -/
def setName (s : List Byte) : List HostLine :=
  (List.range 16).map fun k => .wr (nameOffset (BitVec.ofNat 4 k)) (fromLe32 (nameField s) (4 * k))

/-- `CRCBYTES b0, b1, ...` (R123). -/
def crcBytes (s : List Byte) : List HostLine :=
  .wr 0x04#8 3#32 :: s.map fun b => .wr 0x24#8 (b.setWidth 32)

/-- `SEND` (R123). -/
def sendLine : HostLine := .wr 0x04#8 1#32

/-- `RECEIVE` (R123). -/
def receiveLine : HostLine := .wr 0x04#8 2#32

/-- `WAITDONE`: BUSY = 0 and DONE = 1 (R123). -/
def waitDone : HostLine := .poll 0x08#8 0x3#32 0x2#32

/-- `ACKDONE` (R123). -/
def ackDone : HostLine := .wr 0x08#8 0x2#32

/-- The host's turns for the accesses `as`, in order (20_memory.md R83, R94). -/
def accessTurns (as : List HostAccess) : List Turn := as.map .access

end Sys2Proof.Machine
end

