-- ==== Sys2Proof/Safety.lean ====
section
/-! DEFINITION. What holds of every state a run reaches, in the terms the statements use: the state invariant, clause by
clause, each with the rules it comes from. Every clause is decidable. -/

namespace Sys2Proof.Machine

/-- A position of the sender's program (42_sender.md). -/
def Pos.ofSender : Pos → Bool
  | .sSendBot | .sAwaitPeer | .sHeader _ | .sLoad | .sLoadAns | .sDiscard | .sChunk _ | .sWaitSync | .sEchoSync
  | .sWaitVerdict | .sClose _ | .sCloseAns _ => true
  | _ => false

/-- A position of the receiver's program (43_receiver.md). -/
def Pos.ofReceiver (p : Pos) : Bool := !p.ofSender && decide (p ≠ .idle)

/-- A position at which the receiver's output file is open (R243 to R251). -/
def Pos.sinkIsOpen : Pos → Bool
  | .rSendEot | .rChunk _ | .rSendSync | .rWaitSync | .rSendVerdict | .rCommit | .rCommitAns | .rClose _
  | .rCloseAns _ => true
  | _ => false

/-- A position after the sizes of the session are known (R200, R243). -/
def Pos.sizesKnown (p : Pos) : Bool := p.ofSender || p.sinkIsOpen || decide (p = .rOpen) || decide (p = .rOpenAns)

/-- A position inside the chunk sequence (R203, R244), closes included only on the receiver's commit side. -/
def Pos.inChunk : Pos → Bool
  | .sLoad | .sLoadAns | .sDiscard | .sChunk _ | .sWaitSync | .sEchoSync | .sWaitVerdict | .rSendEot | .rChunk _
  | .rSendSync | .rWaitSync | .rSendVerdict | .rCommit | .rCommitAns => true
  | _ => false

/-- A position inside an attempt, before its verdict is counted (R205 to R209, R245 to R249). -/
def Pos.inAttempt : Pos → Bool
  | .sLoad | .sLoadAns | .sDiscard | .sChunk _ | .sWaitSync | .sEchoSync | .sWaitVerdict | .rSendEot | .rChunk _
  | .rSendSync | .rWaitSync | .rSendVerdict => true
  | _ => false

/-- The outcome that a detail code belongs to (60_exceptions.md R332). -/
def detailFits : SessionOutcome → Detail → Bool
  | .noOutcome, .noError | .success, .noError | .successExhausted, .noError => true
  | .headerError, .negFilesize | .headerError, .badChunksize | .headerError, .nameUnterminated
  | .headerError, .badChecksum => true
  | .configError, .fileSizeRange | .configError, .chunkSizeRange | .configError, .retrycountZero
  | .configError, .nameTooLong => true
  | .localIoError, .srcRead | .localIoError, .sinkOpen | .localIoError, .sinkAppend => true
  | .retryExhausted, .retryLimit => true
  | _, _ => false

/-- The ending that a closing controller carries is one that R332 lists, and a retry exhaustion has set EXHAUSTED. -/
def Ending.fits (exhausted : Bool) : Ending → Bool
  | .finish => true
  | .raised o d =>
    detailFits o d && decide (o ≠ .noOutcome ∧ o ≠ .success ∧ o ≠ .successExhausted) &&
      (exhausted || decide (o ≠ .retryExhausted))

/-- BUF and HBUF are in canonical form and hold no byte outside their capacity (10_state.md R64). -/
abbrev State.MemoryOk (s : State) : Prop :=
  s.buf.wf = true ∧ s.hbuf.wf = true ∧
  (∀ c ∈ s.buf, c.1 < s.params.chunkBufSize) ∧ (∀ c ∈ s.hbuf, c.1 < hdrSize)

/-- BUSY says that a session runs; while it runs, DONE, OUTCOME and ERRINFO say that none has ended (10_state.md R35,
R58, 60_exceptions.md R341). -/
abbrev State.BusyOk (s : State) : Prop :=
  (s.busy = true ↔ s.pos ≠ .idle) ∧
  (s.busy = true → s.done = false ∧ s.outcome = .noOutcome ∧ s.res.errinfo = .noError)

/-- OUTCOME and ERRINFO agree (R332), and EXHAUSTED marks the outcomes it must and none it must not (R331, R334). -/
abbrev State.OutcomeOk (s : State) : Prop :=
  detailFits s.outcome s.res.errinfo = true ∧
  (s.outcome = .success → s.exhausted = false) ∧
  (s.outcome = .successExhausted ∨ s.outcome = .retryExhausted → s.exhausted = true) ∧
  (match s.pos with
    | .sClose e | .sCloseAns e | .rClose e | .rCloseAns e => e.fits s.exhausted = true
    | _ => True)

/-- While a session runs, its snapshot equals the locked registers (10_state.md R63, 45_host_commands.md R305). -/
abbrev State.SnapshotOk (s : State) : Prop :=
  s.busy = true →
    s.sess.cfg = s.cfgNow ∧ s.sess.rc = s.retrycount ∧ s.sess.hstrict = s.hdrStrict ∧
    s.sess.rstrict = s.retryStrict ∧ s.sess.dir = s.dir ∧ s.retrycount ≠ 0#8 ∧
    (s.dir = .send → s.sess.fs = s.fileSize ∧ s.sess.cs = s.chunkSize)

/-- The position belongs to the session's direction, and the output file is open where R243 to R251 say. -/
abbrev State.PhaseOk (s : State) : Prop :=
  (s.pos.ofSender = true → s.sess.dir = .send) ∧
  (s.pos.ofReceiver = true → s.sess.dir = .receive) ∧
  s.sinkOpened = s.pos.sinkIsOpen

/-- The sizes of a running session (42_sender.md R200, 43_receiver.md R243, 30_encoding.md R117). -/
abbrev State.SizesOk (s : State) : Prop :=
  s.pos.sizesKnown = true →
    5 ≤ s.sess.cs.toNat ∧ s.sess.cs.toNat ≤ s.params.chunkBufSize ∧ s.sess.fs.toNat ≤ 0x7FFFFFFF ∧
    s.sess.p.toNat = s.sess.cs.toNat - 4 ∧
    s.res.numFull.toNat = s.sess.fs.toNat / s.sess.p.toNat ∧
    s.res.remSize.toNat = s.sess.fs.toNat % s.sess.p.toNat

/-- The current chunk and the counts inside counted transfers (R203, R244, R116). -/
abbrev State.ChunkOk (s : State) : Prop :=
  (s.pos.inChunk = true →
    s.res.chunkIdx.toNat ≤ s.res.numFull.toNat ∧
    s.sess.len = if s.res.chunkIdx < s.res.numFull then s.sess.p else s.res.remSize) ∧
  (match s.pos with
    | .sHeader k | .rHeader k => k < hdrSize
    | .sChunk k | .rChunk k => k < s.chunkBytes
    | .sClose .finish | .sCloseAns .finish | .rClose .finish | .rCloseAns .finish => s.res.chunkIdx = s.res.numFull
    | _ => True)

/-- RETRY_CNT never exceeds RETRYCOUNT, and is below it while an attempt runs (10_state.md R47, R209, R249). -/
abbrev State.RetryOk (s : State) : Prop :=
  (s.busy = true → s.res.retryCnt.toNat ≤ s.sess.rc.toNat) ∧
  (s.pos.inAttempt = true → s.res.retryCnt.toNat < s.sess.rc.toNat)

/-- The request that the position waits on is the pending one, no other position has one, and an answer not yet taken
is one the request admits (20_memory.md R92, 10_state.md R65). -/
abbrev State.PortOk (s : State) : Prop :=
  (s.pending = match s.pos with
    | .sLoadAns => some (.srcRead (s.res.chunkIdx * s.sess.p) s.sess.len)
    | .sCloseAns _ => some .srcClose
    | .rOpenAns => some (.sinkOpen (untilNul (headerNameField (s.hbuf.readRange 0 hdrSize))))
    | .rCommitAns => some (.sinkAppend (s.buf.readRange 0 s.sess.len.toNat))
    | .rCloseAns _ => some .sinkClose
    | _ => none) ∧
  (match s.answer with
    | none => True
    | some x => match s.pending with
      | none => False
      | some r => r.admits x = true)

/-- The length of the receiver's output file: the chunks before the current one are in it, an acknowledged append adds the
current one, and a session about to finish has `fs` bytes in it (R244, R250, R252). -/
abbrev State.SinkOk (s : State) : Prop :=
  match s.pos with
  | .rOpenAns => s.answer = some .ack → s.sinkFile = []
  | .rSendEot | .rChunk _ | .rSendSync | .rWaitSync | .rSendVerdict | .rCommit =>
    s.sinkFile.length = s.res.chunkIdx.toNat * s.sess.p.toNat
  | .rCommitAns =>
    s.sinkFile.length = s.res.chunkIdx.toNat * s.sess.p.toNat + if s.answer = some .ack then s.sess.len.toNat else 0
  | .rClose .finish | .rCloseAns .finish => s.sinkFile.length = s.sess.fs.toNat
  | _ => True

/-- The invariant of the machine. -/
structure State.Inv (s : State) : Prop where
  memory : s.MemoryOk
  busy : s.BusyOk
  outcome : s.OutcomeOk
  snapshot : s.SnapshotOk
  phase : s.PhaseOk
  sizes : s.SizesOk
  chunk : s.ChunkOk
  retry : s.RetryOk
  port : s.PortOk
  sink : s.SinkOk

/-! ### Terms of the statements -/

/-- `n` steps of the machine, stopping at the first stop. -/
def runSteps : Nat → State → Result
  | 0, s => .next s
  | n + 1, s =>
    match step s with
    | .next t => runSteps n t
    | .fault f => .fault f
    | .refused r => .refused r

/-- The control bytes that end the wait at a position (44_control_bytes.md R280 to R288, the summary table). -/
def Pos.expects : Pos → Byte → Bool
  | .sAwaitPeer, b | .rAwaitBot, b => b == 0x02#8
  | .sWaitSync, b | .rWaitSync, b => b == 0x04#8
  | .sWaitVerdict, b => b == 0x07#8 || b == 0x08#8
  | _, _ => false

/-- What the receiver's read of the 88 header bytes `h` leaves, with `rest` in `rxq`, `hb` in HBUF and `nm` in the name
buffer: the report, and then the refusal or the session's sizes (43_receiver.md R242, R243). -/
def State.afterHeader (s : State) (rest : List Byte) (hb : Memory) (nm : Vector Word 16) (h : List Byte) : State :=
  let reported : Results := { s.res with
    rxFileSize := fromLe32 h 0, rxChunkSize := fromLe32 h 4, rxCrcx := fromLe32 h 8
    rxPoly := fromLe32 h 76, rxInitx := fromLe32 h 80, rxHdrCrc := fromLe32 h 84
    rxHdrCalc := checksum s.sess.cfg (h.take 84) }
  match decodeHeader s.params.chunkBufSize s.sess.cfg s.sess.hstrict h with
  | .error reason => { s with
    rxq := rest, hbuf := hb, name := nm, res := { reported with errinfo := reason }
    outcome := .headerError, pos := .idle, busy := false, done := true }
  | .ok r => { s with
    rxq := rest, hbuf := hb, name := nm
    sess := { s.sess with fs := r.fileSize, cs := r.chunkSize, p := r.chunkSize - 4#32 }
    res := { reported with
      numFull := r.fileSize / (r.chunkSize - 4#32), remSize := r.fileSize % (r.chunkSize - 4#32) }
    pos := .rOpen }

/-- The turn that the next step takes. -/
def State.nextTurn (s : State) : Turn := s.agenda.headD .block

/-- The instruction that a turn of the host's runs (20_memory.md R82). -/
def Turn.instr : Turn → Option Instr
  | .access a =>
    if a.admitted then
      match decode a.code with
      | .ok i => some i
      | .error _ => none
    else none
  | .block | .answer _ | .deliver _ | .reset => none

end Sys2Proof.Machine
end

