-- ==== Sys2Proof/Certificates/Slice0/Obligations.lean ====
section
/-! DEFINITION. The statements for the provers, each a Prop over the model, with the rules of the spec it rests on. A
premise `agenda = []` says that the block's own steps follow one another; what the other agents' turns leave alone is
stated apart. -/

open Sys2Proof Sys2Proof.Machine

/-- For every well-formed instruction of the opcode table, whatever its operands, decode of encode is the instruction
itself (R111, R118, R119, R121). -/
def Obligations.DecodeEncodeAgree : Prop :=
  ∀ i : Instr, i.WellFormed = true → decode (encode i) = .ok i

/-- Whatever a code word decodes to is well-formed, and encoding it gives the word back, except that the DATA bits of
a read, which no row of the table looks at, come back as 0 (log entry 11) (R111, R118, R119, R121). -/
def Obligations.EncodeDecodeAgree : Prop :=
  ∀ (c : Code) (i : Instr), decode c = .ok i →
    i.WellFormed = true ∧
    encode i = match c with
      | .ctrl8 b => .ctrl8 b
      | .bus d => if descWrite d then .bus d else busRead (descOff d)

/-- The eight control bytes, a byte outside the alphabet, and descriptors of the three commands, a reserved command,
a CRC_DIN write, a CTRL write, a name write, a write and a read of an unmapped offset and two register reads decode
to their rows, and a misaligned descriptor is rejected (R111, R112, R118, R119). -/
def Obligations.SpecWordsDecode : Prop :=
  decode (.ctrl8 0b00000001#8) = .ok .eot ∧ decode (.ctrl8 0b00000010#8) = .ok .bot ∧
  decode (.ctrl8 0b00000011#8) = .ok .lok ∧ decode (.ctrl8 0b00000100#8) = .ok .sync ∧
  decode (.ctrl8 0b00000101#8) = .ok .ok ∧ decode (.ctrl8 0b00000110#8) = .ok .rsd ∧
  decode (.ctrl8 0b00000111#8) = .ok .sok ∧ decode (.ctrl8 0b00001000#8) = .ok .nok ∧
  decode (.ctrl8 0x41#8) = .ok (.ctrlOther 0x41#8) ∧
  decode (.bus 0x10400000001#41) = .ok .send ∧ decode (.bus 0x10400000002#41) = .ok .receive ∧
  decode (.bus 0x10400000003#41) = .ok .crcClear ∧ decode (.bus 0x10400000000#41) = .ok (.cmdReserved 0#32) ∧
  decode (.bus 0x12400000031#41) = .ok (.crcUpdate 0x31#32) ∧ decode (.bus 0x1000000000F#41) = .ok (.wrCtrl 0xF#32) ∧
  decode (.bus 0x1BC12345678#41) = .ok (.wrName 15#4 0x12345678#32) ∧
  decode (.bus 0x1C000000007#41) = .ok (.wrIgnored 0xC0#8 7#32) ∧
  decode (.bus 0x0FC00000000#41) = .ok (.rdUnmapped 0xFC#8) ∧
  decode (.bus 0x02C00000000#41) = .ok .rdCrcOut ∧ decode (.bus 0x08000000000#41) = .ok (.rdName 0#4) ∧
  decode (.bus 0x10500000001#41) = .error .misalignedOffset

/-- A host access that is 32 bits wide, at an offset that is a multiple of 4 and below 0x100, has a descriptor that
decodes to a well-formed instruction, and the access runs that instruction; every other access is refused by name
(R82). -/
def Obligations.HostAccessAdmission : Prop :=
  ∀ (a : HostAccess) (s : State),
    (a.size = 4 ∧ a.offset % 4 = 0 ∧ a.offset < 0x100 →
      ∃ i : Instr, i.WellFormed = true ∧
        decode (.bus (busDesc a.write (BitVec.ofNat 8 a.offset) (if a.write then a.data else 0#32))) = .ok i ∧
        hostAccess a s = exec i s) ∧
    (¬ (a.size = 4 ∧ a.offset % 4 = 0 ∧ a.offset < 0x100) → hostAccess a s = .refused .accessNotAdmitted)

/-- When the next turn is an admitted host access whose descriptor decodes to i, the step is exec of i on the state
with that turn removed; when the next turn is the block's (the agenda's head, or an empty agenda, log entry 1) and it
is at a handshake wait with a byte in rxq, the step is exec of the decoded byte on the state with that turn and that
byte removed (R82, R94, R98, R314). -/
def Obligations.StepRunsTheDecodedInstruction : Prop :=
  (∀ (s : State) (a : HostAccess) (rest : List Turn) (i : Instr),
    s.agenda = .access a :: rest → a.admitted = true → decode a.code = .ok i →
    step s = exec i { s with agenda := rest }) ∧
  (∀ (s : State) (b : Byte) (r : List Byte) (i : Instr),
    s.nextTurn = .block → s.pos.handshakeWait = true → s.rxq = b :: r → decode (.ctrl8 b) = .ok i →
    step s = exec i { s with agenda := s.agenda.tail, rxq := r })

/-- At S_AWAIT_PEER, BOT takes the sender to header byte 0 and writes the 88 bytes of encode(h, SESS.cfg) into HBUF,
where h has SESS.fs, SESS.cs, the final-XOR constant, the name buffer's bytes before its first 0x00, the polynomial
and the initial value; at R_AWAIT_BOT it takes the receiver to the echo. At S_WAIT_SYNC, SYNC takes the sender to its
echo, at R_WAIT_SYNC the receiver to its verdict. In every other state the two change nothing (outside a wait: log
entry 12) (R281, R283, R201, R202, R176, R206, R241, R247). -/
def Obligations.BotAndSyncEndTheirWaits : Prop :=
  ∀ s : State,
    (s.pos = .sAwaitPeer → ∃ hb : Memory,
      exec .bot s = .next { s with hbuf := hb, pos := .sHeader 0 } ∧
      (s.hbuf.wf = true → hb.wf = true ∧
        hb.readRange 0 88 = encodeHeader
          { fileSize := s.sess.fs, chunkSize := s.sess.cs, crcX := s.sess.cfg.xorout,
            fileName := (nameBytes s.name).takeWhile (· != 0#8), poly := s.sess.cfg.poly,
            initX := s.sess.cfg.init, crcCheck := 0#32 } s.sess.cfg ∧
        ∀ a : Nat, 88 ≤ a → hb.read a = s.hbuf.read a)) ∧
    (s.pos = .rAwaitBot → exec .bot s = .next { s with pos := .rEchoBot }) ∧
    (s.pos ≠ .sAwaitPeer → s.pos ≠ .rAwaitBot → exec .bot s = .next s) ∧
    (s.pos = .sWaitSync → exec .sync s = .next { s with pos := .sEchoSync }) ∧
    (s.pos = .rWaitSync → exec .sync s = .next { s with pos := .rSendVerdict }) ∧
    (s.pos ≠ .sWaitSync → s.pos ≠ .rWaitSync → exec .sync s = .next s)

/-- At S_WAIT_VERDICT, SOK starts chunk i + 1 with RETRY_CNT 0 and its payload length while i is below NUM_FULL, and
after the remainder chunk takes the sender to its close with RETRY_CNT as it was; in every other state nothing
changes (outside a wait: log entry 12) (R208, R203, R286). -/
def Obligations.SokAdvancesTheSender : Prop :=
  ∀ s : State,
    (s.pos = .sWaitVerdict → s.res.chunkIdx < s.res.numFull → exec .sok s = .next { s with
      sess := { s.sess with
        len := if s.res.chunkIdx + 1#32 < s.res.numFull then s.sess.p else s.res.remSize }
      res := { s.res with chunkIdx := s.res.chunkIdx + 1#32, retryCnt := 0#8 }
      pos := .sLoad }) ∧
    (s.pos = .sWaitVerdict → ¬ s.res.chunkIdx < s.res.numFull →
      exec .sok s = .next { s with pos := .sClose .finish }) ∧
    (s.pos ≠ .sWaitVerdict → exec .sok s = .next s)

/-- At S_WAIT_VERDICT with RETRY_CNT below SESS.rc, NOK adds 1 to RETRY_CNT and NOK_TOTAL; while the count stays
below SESS.rc the next attempt begins with BUF as it is; at SESS.rc EXHAUSTED is set and the strict session raises
RETRY_EXHAUSTED(RETRY_LIMIT) through its close, while the lenient one goes on to the next chunk or to the close; in
every state off the wait nothing changes (outside a wait: log entry 12) (R209, R203, R287). -/
def Obligations.NokRetriesOrExhausts : Prop :=
  ∀ s : State,
    (s.pos = .sWaitVerdict → s.sess.dir = .send → s.res.retryCnt.toNat < s.sess.rc.toNat →
      let counted : Results := { s.res with retryCnt := s.res.retryCnt + 1#8, nokTotal := s.res.nokTotal + 1#32 }
      counted.retryCnt.toNat = s.res.retryCnt.toNat + 1 ∧
      (s.res.retryCnt.toNat + 1 < s.sess.rc.toNat →
        exec .nok s = .next { s with res := counted, pos := .sDiscard }) ∧
      (s.res.retryCnt.toNat + 1 = s.sess.rc.toNat → s.sess.rstrict = true →
        exec .nok s = .next { s with
          res := counted, exhausted := true, pos := .sClose (.raised .retryExhausted .retryLimit) }) ∧
      (s.res.retryCnt.toNat + 1 = s.sess.rc.toNat → s.sess.rstrict = false →
        (s.res.chunkIdx.toNat < s.res.numFull.toNat → exec .nok s = .next { s with
          sess := { s.sess with
            len := if s.res.chunkIdx + 1#32 < s.res.numFull then s.sess.p else s.res.remSize }
          res := { counted with chunkIdx := s.res.chunkIdx + 1#32, retryCnt := 0#8 }
          exhausted := true, pos := .sLoad }) ∧
        (s.res.numFull.toNat ≤ s.res.chunkIdx.toNat →
          exec .nok s = .next { s with res := counted, exhausted := true, pos := .sClose .finish }))) ∧
    (s.pos ≠ .sWaitVerdict → exec .nok s = .next s)

/-- At each of the five handshake waits a received byte that the wait does not expect is removed from rxq in one
block step and changes nothing else: the same wait goes on. EOT, LOK, OK, RSD and every byte that is no control byte
leave every state as it is (the byte itself has left rxq in the step that received it); outside the waits that is the
model's choice (log entry 12) (R112, R280, R281, R282, R283, R284, R285, R286, R287, R288). -/
def Obligations.UnexpectedBytesAreDiscarded : Prop :=
  (∀ (s : State) (b : Byte) (r : List Byte),
    s.pos.handshakeWait = true → s.rxq = b :: r → s.pos.expects b = false →
    blockStep s = .next { s with rxq := r }) ∧
  (∀ s : State,
    exec .eot s = .next s ∧ exec .lok s = .next s ∧ exec .ok s = .next s ∧ exec .rsd s = .next s ∧
    ∀ b : Byte, exec (.ctrlOther b) s = .next s)

/-- Writing 1 to CMD decodes to SEND. While BUSY it only sets WERR. Otherwise it clears the session-result registers,
DONE, OUTCOME and EXHAUSTED and sets DIR to 0; the first failing check of FILE_SIZE, CHUNK_SIZE, RETRYCOUNT and the
name ends it at once with CONFIG_ERROR, its detail and DONE; when all pass BUSY is set and the sender's entry takes
the snapshot, P, NUM_FULL and REM_SIZE, and waits for the peer (R300, R200). -/
def Obligations.SendCommand : Prop :=
  decode (.bus (busDesc true 0x04#8 0x00000001#32)) = .ok .send ∧
  ∀ s : State,
    let refused (d : Detail) : Result := .next { s with
      done := true, exhausted := false, outcome := .configError, dir := .send,
      res := { Results.cleared with errinfo := d } }
    (s.busy = true → exec .send s = .next { s with werr := true }) ∧
    (s.busy = false → 0x7FFFFFFF < s.fileSize.toNat → exec .send s = refused .fileSizeRange) ∧
    (s.busy = false → s.fileSize.toNat ≤ 0x7FFFFFFF →
      (s.chunkSize.toNat < 5 ∨ s.params.chunkBufSize < s.chunkSize.toNat →
        exec .send s = refused .chunkSizeRange) ∧
      (5 ≤ s.chunkSize.toNat → s.chunkSize.toNat ≤ s.params.chunkBufSize →
        (s.retrycount = 0#8 → exec .send s = refused .retrycountZero) ∧
        (s.retrycount ≠ 0#8 → 0#8 ∉ nameBytes s.name → exec .send s = refused .nameTooLong) ∧
        (s.retrycount ≠ 0#8 → 0#8 ∈ nameBytes s.name → exec .send s = .next { s with
          busy := true, done := false, exhausted := false, outcome := .noOutcome, dir := .send
          sess := {
            dir := .send
            cfg := { poly := s.crcPoly, init := s.crcInit, xorout := s.crcXorout,
                     refin := s.ctrl.getLsbD 2, refout := s.ctrl.getLsbD 3 }
            rc := s.retrycount, hstrict := s.ctrl.getLsbD 0, rstrict := s.ctrl.getLsbD 1
            fs := s.fileSize, cs := s.chunkSize, p := s.chunkSize - 4#32
            len := s.sess.len, ok := s.sess.ok }
          res := { Results.cleared with
            numFull := BitVec.ofNat 32 (s.fileSize.toNat / (s.chunkSize.toNat - 4))
            remSize := BitVec.ofNat 32 (s.fileSize.toNat % (s.chunkSize.toNat - 4)) }
          pos := .sSendBot, sinkOpened := false })))

/-- Writing 2 to CMD decodes to RECEIVE. While BUSY it only sets WERR. Otherwise it clears the session-result
registers, DONE, OUTCOME and EXHAUSTED and sets DIR to 1; RETRYCOUNT 0 ends it at once with CONFIG_ERROR and its
detail; otherwise BUSY is set and the receiver's entry takes the snapshot and waits for BOT, whatever FILE_SIZE,
CHUNK_SIZE and the name hold (R301, R240). -/
def Obligations.ReceiveCommand : Prop :=
  decode (.bus (busDesc true 0x04#8 0x00000002#32)) = .ok .receive ∧
  ∀ s : State,
    (s.busy = true → exec .receive s = .next { s with werr := true }) ∧
    (s.busy = false → s.retrycount = 0#8 → exec .receive s = .next { s with
      done := true, exhausted := false, outcome := .configError, dir := .receive,
      res := { Results.cleared with errinfo := .retrycountZero } }) ∧
    (s.busy = false → s.retrycount ≠ 0#8 → exec .receive s = .next { s with
      busy := true, done := false, exhausted := false, outcome := .noOutcome, dir := .receive
      res := Results.cleared
      sess := { s.sess with
        dir := .receive
        cfg := { poly := s.crcPoly, init := s.crcInit, xorout := s.crcXorout,
                 refin := s.ctrl.getLsbD 2, refout := s.ctrl.getLsbD 3 }
        rc := s.retrycount, hstrict := s.ctrl.getLsbD 0, rstrict := s.ctrl.getLsbD 1 }
      pos := .rAwaitBot, sinkOpened := false })

/-- Writing 3 to CMD decodes to CRC_CLEAR, which in every state, busy or not, sets CRC_ACC to CRC_INIT and changes
nothing else; CRC_OUT then reads the checksum of the empty sequence, 0 under the reset configuration (R146). -/
def Obligations.CrcClearLoadsTheInit : Prop :=
  decode (.bus (busDesc true 0x04#8 0x00000003#32)) = .ok .crcClear ∧
  (∀ s : State, exec .crcClear s = .next { s with crcAcc := s.crcInit } ∧
    crcFinal s.cfgNow s.crcInit = checksum s.cfgNow []) ∧
  checksum { poly := 0x04C11DB7#32, init := 0xFFFFFFFF#32, xorout := 0xFFFFFFFF#32, refin := true, refout := true } [] =
    0x00000000#32

/-- A write to CMD of any value other than 1, 2 or 3, 0 among them, decodes to CMD_RESERVED, which in every state,
busy or not, sets WERR and changes nothing else (R302). -/
def Obligations.ReservedCommandSetsWerr : Prop :=
  ∀ (s : State) (data : Word), data ≠ 1#32 → data ≠ 2#32 → data ≠ 3#32 →
    decode (.bus (busDesc true 0x04#8 data)) = .ok (.cmdReserved data) ∧
    exec (.cmdReserved data) s = .next { s with werr := true }

/-- A write to CRC_DIN decodes to CRC_UPDATE, which in every state, busy or not, replaces CRC_ACC by crc_step of the
configuration the registers hold now, the old CRC_ACC and DATA[7:0], and changes nothing else; with CRC_POLY 0 that
is a left shift by 8 whatever the byte; from 0xFFFFFFFF under the reset configuration 0x31 gives 0x1208C43E
(R145). -/
def Obligations.CrcUpdateStepsTheAccumulator : Prop :=
  ∀ (s : State) (data : Word),
    decode (.bus (busDesc true 0x24#8 data)) = .ok (.crcUpdate data) ∧
    exec (.crcUpdate data) s = .next { s with
      crcAcc := crcStep
        { poly := s.crcPoly, init := s.crcInit, xorout := s.crcXorout,
          refin := s.ctrl.getLsbD 2, refout := s.ctrl.getLsbD 3 } s.crcAcc (data.extractLsb' 0 8) } ∧
    (s.crcPoly = 0#32 → exec (.crcUpdate data) s = .next { s with crcAcc := s.crcAcc <<< 8 }) ∧
    (s.crcPoly = 0x04C11DB7#32 → s.ctrl.getLsbD 2 = true → s.crcAcc = 0xFFFFFFFF#32 →
      data.extractLsb' 0 8 = 0x31#8 → exec (.crcUpdate data) s = .next { s with crcAcc := 0x1208C43E#32 })

/-- With BUSY 0, a write to CTRL stores DATA[3:0], a write to RETRYCOUNT stores DATA[7:0], a write to CHUNK_SIZE,
FILE_SIZE, CRC_POLY, CRC_INIT, CRC_XOROUT or NAMEk stores all 32 bits, whatever the value, and nothing else changes
(R304, R307, R308, R309, R310, R311, R121). -/
def Obligations.IdleRegisterWritesStore : Prop :=
  ∀ (s : State) (data : Word), s.busy = false →
    exec (.wrCtrl data) s = .next { s with ctrl := data.extractLsb' 0 4 } ∧
    exec (.wrRetrycount data) s = .next { s with retrycount := data.extractLsb' 0 8 } ∧
    exec (.wrChunkSize data) s = .next { s with chunkSize := data } ∧
    exec (.wrFileSize data) s = .next { s with fileSize := data } ∧
    exec (.wrCrcPoly data) s = .next { s with crcPoly := data } ∧
    exec (.wrCrcInit data) s = .next { s with crcInit := data } ∧
    exec (.wrCrcXorout data) s = .next { s with crcXorout := data } ∧
    ∀ k : BitVec 4, exec (.wrName k data) s = .next { s with name := s.name.set k.toFin.val data }

/-- With BUSY 1, a write to CTRL, RETRYCOUNT, CHUNK_SIZE, FILE_SIZE, CRC_POLY, CRC_INIT, CRC_XOROUT or NAMEk, or of
SEND or RECEIVE, sets WERR and changes nothing else; a write to STATUS or CRC_DIN, CRC_CLEAR, a reserved command and
an ignored write act the same with BUSY 1 as with BUSY 0; and no step clears WERR but a write to STATUS with bit 2
set, or a reset (R305). -/
def Obligations.BusyLock : Prop :=
  (∀ (s : State) (i : Instr), s.busy = true →
    (i = .send ∨ i = .receive ∨
      ∃ data : Word, i = .wrCtrl data ∨ i = .wrRetrycount data ∨ i = .wrChunkSize data ∨ i = .wrFileSize data ∨
        i = .wrCrcPoly data ∨ i = .wrCrcInit data ∨ i = .wrCrcXorout data ∨ ∃ k : BitVec 4, i = .wrName k data) →
    exec i s = .next { s with werr := true }) ∧
  (∀ (s t : State) (i : Instr), s.busy = false →
    (i = .crcClear ∨
      ∃ data : Word, i = .wrStatus data ∨ i = .crcUpdate data ∨ i = .cmdReserved data ∨
        ∃ off : BitVec 8, i = .wrIgnored off data) →
    exec i s = .next t → exec i { s with busy := true } = .next { t with busy := true }) ∧
  (∀ s t : State, step s = .next t → s.werr = true → t.werr = false →
    s.nextTurn = .reset ∨ ∃ data : Word, s.nextTurn.instr = some (.wrStatus data) ∧ data.getLsbD 2 = true)

/-- A write to STATUS decodes to WR_STATUS, which clears DONE when bit 1 of the data is 1, clears WERR when bit 2 is
1, and changes nothing else, whatever the other bits are and whether BUSY is set or not (R306). -/
def Obligations.StatusWriteClearsDoneAndWerr : Prop :=
  ∀ (s : State) (v : Word),
    decode (.bus (busDesc true 0x08#8 v)) = .ok (.wrStatus v) ∧
    exec (.wrStatus v) s = .next { s with
      done := if v.getLsbD 1 then false else s.done
      werr := if v.getLsbD 2 then false else s.werr }

/-- A write at an aligned offset from 0x28 to 0x7C or from 0xC0 on decodes to WR_IGNORED and changes nothing, WERR
included, busy or not; a read at an aligned offset from 0x64 to 0x7C or from 0xC0 on decodes to RD_UNMAPPED and
returns 0 with no other effect (R312, R60). -/
def Obligations.IgnoredAndUnmappedAccesses : Prop :=
  (∀ (s : State) (off : BitVec 8) (data : Word),
    off.toNat % 4 = 0 → (0x28 ≤ off.toNat ∧ off.toNat ≤ 0x7C ∨ 0xC0 ≤ off.toNat) →
    decode (.bus (busDesc true off data)) = .ok (.wrIgnored off data) ∧
    exec (.wrIgnored off data) s = .next s) ∧
  (∀ (s : State) (off : BitVec 8),
    off.toNat % 4 = 0 → (0x64 ≤ off.toNat ∧ off.toNat ≤ 0x7C ∨ 0xC0 ≤ off.toNat) →
    decode (.bus (busDesc false off 0#32)) = .ok (.rdUnmapped off) ∧
    exec (.rdUnmapped off) s = .next { s with trace := s.trace ++ [0#32] })

/-- For each mapped offset, the read decodes to its row and hands the host the register's value, reserved bits 0: 0
for CMD and CRC_DIN, the packed fields for STATUS, crc_final of the current configuration and CRC_ACC for CRC_OUT;
nothing else changes. That the value is recorded at the end of trace is the model's form of returning it (log entry
10) (R303). -/
def Obligations.RegisterReads : Prop :=
  ∀ s : State,
    (∀ x ∈ ([
        (0x00#8, .rdCtrl, 0#28 ++ s.ctrl), (0x04#8, .rdCmd, 0#32),
        (0x08#8, .rdStatus, 0#11 ++ s.dir.bit ++ s.pos.stateCode ++ 0#4 ++ s.outcome.code ++ 0#4 ++
          BitVec.ofBool s.exhausted ++ BitVec.ofBool s.werr ++ BitVec.ofBool s.done ++ BitVec.ofBool s.busy),
        (0x0C#8, .rdRetrycount, 0#24 ++ s.retrycount), (0x10#8, .rdChunkSize, s.chunkSize),
        (0x14#8, .rdFileSize, s.fileSize), (0x18#8, .rdCrcPoly, s.crcPoly), (0x1C#8, .rdCrcInit, s.crcInit),
        (0x20#8, .rdCrcXorout, s.crcXorout), (0x24#8, .rdCrcDin, 0#32), (0x28#8, .rdCrcAcc, s.crcAcc),
        (0x2C#8, .rdCrcOut, (if s.ctrl.getLsbD 3 then s.crcAcc.reverse else s.crcAcc) ^^^ s.crcXorout),
        (0x30#8, .rdChunkIdx, s.res.chunkIdx), (0x34#8, .rdRetryCnt, 0#24 ++ s.res.retryCnt),
        (0x38#8, .rdNumFull, s.res.numFull), (0x3C#8, .rdRemSize, s.res.remSize),
        (0x40#8, .rdRxFileSize, s.res.rxFileSize), (0x44#8, .rdRxChunkSize, s.res.rxChunkSize),
        (0x48#8, .rdRxCrcx, s.res.rxCrcx), (0x4C#8, .rdRxPoly, s.res.rxPoly), (0x50#8, .rdRxInitx, s.res.rxInitx),
        (0x54#8, .rdRxHdrCrc, s.res.rxHdrCrc), (0x58#8, .rdRxHdrCalc, s.res.rxHdrCalc),
        (0x5C#8, .rdNokTotal, s.res.nokTotal), (0x60#8, .rdErrinfo, 0#24 ++ s.res.errinfo.code)
      ] : List (BitVec 8 × Instr × Word)),
      decode (.bus (busDesc false x.1 0#32)) = .ok x.2.1 ∧
      exec x.2.1 s = .next { s with trace := s.trace ++ [x.2.2] }) ∧
    (∀ k : BitVec 4,
      decode (.bus (busDesc false (BitVec.ofNat 8 (0x80 + 4 * k.toNat)) 0#32)) = .ok (.rdName k) ∧
      exec (.rdName k) s = .next { s with trace := s.trace ++ [s.name[k.toFin.val]] }) ∧
    (∀ off : BitVec 8, off.toNat % 4 = 0 → (0x64 ≤ off.toNat ∧ off.toNat ≤ 0x7C ∨ 0xC0 ≤ off.toNat) →
      decode (.bus (busDesc false off 0#32)) = .ok (.rdUnmapped off) ∧
      exec (.rdUnmapped off) s = .next { s with trace := s.trace ++ [0#32] })

/-- In the word a read of STATUS returns, BUSY, DONE, WERR and EXHAUSTED are bits 0 to 3, OUTCOME bits 11:8, STATE
bits 19:16 and DIR bit 20, OUTCOME is at most 6, STATE at most 14 and 0 exactly at the idle position; bits 7:0 of the
word a read of ERRINFO returns are the last session's detail code, one of the thirteen of R332; every outcome has its
code of R331, every detail its code of R332 and every position the STATE code that R36 gives the step it stands in
(which step a position is of is the model's, log entry 17); the words read from CTRL, STATUS, RETRYCOUNT, RETRY_CNT
and ERRINFO have 0 in every reserved bit; two writes to CTRL, RETRYCOUNT or STATUS that agree on the bits not
reserved do the same; and a write to RETRY_CNT or ERRINFO, its reserved bits among them, is ignored (R61, R35,
R36, R303, R331, R332, R58, R312). -/
def Obligations.StatusFieldsAndReservedBits : Prop :=
  (∀ s : State,
    let w := s.statusWord
    w.getLsbD 0 = s.busy ∧ w.getLsbD 1 = s.done ∧ w.getLsbD 2 = s.werr ∧ w.getLsbD 3 = s.exhausted ∧
    w.extractLsb' 8 4 = s.outcome.code ∧ w.extractLsb' 16 4 = s.pos.stateCode ∧
    w.getLsbD 20 = decide (s.dir = .receive) ∧
    s.outcome.code.toNat ≤ 6 ∧ s.pos.stateCode.toNat ≤ 14 ∧ (s.pos.stateCode = 0#4 ↔ s.pos = .idle) ∧
    exec .rdStatus s = .next { s with trace := s.trace ++ [w] } ∧ w &&& 0xFFE0F0F0#32 = 0#32 ∧
    ∃ c rc rt er : Word,
      exec .rdCtrl s = .next { s with trace := s.trace ++ [c] } ∧ c &&& 0xFFFFFFF0#32 = 0#32 ∧
      exec .rdRetrycount s = .next { s with trace := s.trace ++ [rc] } ∧ rc &&& 0xFFFFFF00#32 = 0#32 ∧
      exec .rdRetryCnt s = .next { s with trace := s.trace ++ [rt] } ∧ rt &&& 0xFFFFFF00#32 = 0#32 ∧
      exec .rdErrinfo s = .next { s with trace := s.trace ++ [er] } ∧ er &&& 0xFFFFFF00#32 = 0#32 ∧
      er.extractLsb' 0 8 = s.res.errinfo.code ∧
      er.toNat ∈ [0x00, 0x01, 0x02, 0x03, 0x04, 0x11, 0x12, 0x13, 0x14, 0x21, 0x22, 0x23, 0x31]) ∧
  (∀ o : SessionOutcome, o.code.toNat = match o with
    | .noOutcome => 0 | .success => 1 | .successExhausted => 2 | .localIoError => 3
    | .headerError => 4 | .retryExhausted => 5 | .configError => 6) ∧
  (∀ d : Detail, d.code.toNat = match d with
    | .noError => 0x00 | .negFilesize => 0x01 | .badChunksize => 0x02 | .nameUnterminated => 0x03
    | .badChecksum => 0x04 | .fileSizeRange => 0x11 | .chunkSizeRange => 0x12 | .retrycountZero => 0x13
    | .nameTooLong => 0x14 | .srcRead => 0x21 | .sinkOpen => 0x22 | .sinkAppend => 0x23 | .retryLimit => 0x31) ∧
  (∀ p : Pos, p.stateCode.toNat = match p with
    | .idle => 0
    | .sSendBot | .sAwaitPeer => 1
    | .sHeader _ => 2
    | .sLoad | .sLoadAns => 3
    | .sDiscard | .sChunk _ => 4
    | .sWaitSync | .sEchoSync => 5
    | .sWaitVerdict => 6
    | .sClose _ | .sCloseAns _ => 7
    | .rAwaitBot | .rEchoBot => 8
    | .rHeader _ => 9
    | .rOpen | .rOpenAns => 10
    | .rSendEot | .rChunk _ => 11
    | .rSendSync | .rWaitSync | .rSendVerdict => 12
    | .rCommit | .rCommitAns => 13
    | .rClose _ | .rCloseAns _ => 14) ∧
  (∀ (s : State) (v w : Word),
    (v &&& 0xF#32 = w &&& 0xF#32 → exec (.wrCtrl v) s = exec (.wrCtrl w) s) ∧
    (v &&& 0xFF#32 = w &&& 0xFF#32 → exec (.wrRetrycount v) s = exec (.wrRetrycount w) s) ∧
    (v &&& 0x1F0F0F#32 = w &&& 0x1F0F0F#32 → exec (.wrStatus v) s = exec (.wrStatus w) s) ∧
    decode (.bus (busDesc true 0x34#8 v)) = .ok (.wrIgnored 0x34#8 v) ∧
    exec (.wrIgnored 0x34#8 v) s = .next s ∧
    decode (.bus (busDesc true 0x60#8 v)) = .ok (.wrIgnored 0x60#8 v) ∧
    exec (.wrIgnored 0x60#8 v) s = .next s)

/-- For every aligned offset there is one value v such that n successive reads of it all return v and leave
everything unchanged but the host's record of what it has read and the turns taken (R84). -/
def Obligations.ReadsChangeNothing : Prop :=
  ∀ (s : State) (off : BitVec 8), off.toNat % 4 = 0 → ∃ v : Word,
    ∀ (n : Nat) (rest : List Turn),
      runSteps n { s with agenda := accessTurns (List.replicate n (readAccess off)) ++ rest } =
        .next { s with agenda := rest, trace := s.trace ++ List.replicate n v }

/-- The name buffer has 64 bytes; byte j of it is bits 8(j mod 4)+7 to 8(j mod 4) of NAME(j/4); a buffer made from 64
bytes has these bytes, and the words and the bytes determine each other (R59, R88). -/
def Obligations.NameBufferLanes : Prop :=
  (∀ name : Vector Word 16, (nameBytes name).length = 64 ∧
    (∀ (j : Nat) (h : j < 64), (nameBytes name)[j]? = some ((name[j / 4]'(by omega)).extractLsb' (8 * (j % 4)) 8)) ∧
    nameOfBytes (nameBytes name) = name) ∧
  (∀ s : List Byte, s.length = 64 → nameBytes (nameOfBytes s) = s)

/-- Every step leaves txq as it is or, in a turn of the block, appends one byte to it: BOT at the sender's start and
the receiver's echo, HBUF[k] at header byte k, BUF[k] at chunk byte k, SYNC at the sender's echo and the receiver's
barrier, EOT at the start of a receiver's attempt, SOK or NOK at its verdict; no other position transmits, and no
byte is ever recalled (R89, R376, R111, R202, R205). -/
def Obligations.TransmittedBytes : Prop :=
  ∀ s t : State, step s = .next t →
    t.txq = s.txq ∨
    (s.nextTurn = .block ∧ ∃ b : Byte, t.txq = s.txq ++ [b] ∧
      match s.pos with
      | .sSendBot | .rEchoBot => b = 0x02#8
      | .sHeader k => k < 88 ∧ b = s.hbuf.read k
      | .sChunk k => b = s.buf.read k
      | .sEchoSync | .rSendSync => b = 0x04#8
      | .rSendEot => b = 0x01#8
      | .rSendVerdict => b = if s.sess.ok then 0x07#8 else 0x08#8
      | _ => False)

/-- A delivery appends its byte to rxq and changes nothing else but the agenda, which it leaves; a turn of the block
removes bytes from the front of rxq only, at most one except at the sender's discard; host accesses, host answers and
resets leave rxq as it is (R90, R91, R94, R372). -/
def Obligations.ReceiveQueueOrder : Prop :=
  ∀ s t : State, step s = .next t →
    match s.nextTurn with
    | .deliver b => t = { s with agenda := s.agenda.tail, rxq := s.rxq ++ [b] }
    | .block => ∃ k : Nat, k ≤ s.rxq.length ∧ t.rxq = s.rxq.drop k ∧ (s.pos ≠ .sDiscard → k ≤ 1)
    | .access _ | .answer _ | .reset => t.rxq = s.rxq

/-- The block's turn leaves the state as it is when no session runs, when a LinkRecv (at a handshake wait or inside a
counted read) finds rxq empty, and when the host has not answered the pending request; that such a turn counts as a
step is the model's form of a hold (log entry 2) (R90, R92, R314, R341). -/
def Obligations.HoldsChangeNothing : Prop :=
  ∀ s : State,
    (s.pos = .idle → blockStep s = .next s) ∧
    (s.rxq = [] →
      (s.pos = .sAwaitPeer ∨ s.pos = .sWaitSync ∨ s.pos = .sWaitVerdict ∨ s.pos = .rAwaitBot ∨ s.pos = .rWaitSync ∨
        (∃ k : Nat, s.pos = .rHeader k) ∨ ∃ k : Nat, s.pos = .rChunk k) → blockStep s = .next s) ∧
    (s.answer = none →
      (s.pos = .sLoadAns ∨ (∃ e : Ending, s.pos = .sCloseAns e) ∨ s.pos = .rOpenAns ∨ s.pos = .rCommitAns ∨
        ∃ e : Ending, s.pos = .rCloseAns e) → blockStep s = .next s)

/-- With a request pending and not yet answered, SrcRead(off, n) admits Data of exactly n bytes and IoErr, SrcClose
and SinkClose admit Ack, SinkOpen and SinkAppend admit Ack and IoErr; an acknowledged SinkOpen empties the output
file, an acknowledged SinkAppend appends its bytes, and no other admitted answer changes it (log entries 13, 14); any
other answer is refused, and so is an answer with no request waiting for one (R92, R371). -/
def Obligations.HostAnswersAdmitted : Prop :=
  ∀ s : State,
    (∀ (off n : Word) (b : List Byte), s.pending = some (.srcRead off n) → s.answer = none →
      (b.length = n.toNat → s.hostAnswer (.data b) = .next { s with answer := some (.data b) }) ∧
      (b.length ≠ n.toNat → s.hostAnswer (.data b) = .refused .answerNotAdmitted) ∧
      s.hostAnswer .ioErr = .next { s with answer := some .ioErr } ∧
      s.hostAnswer .ack = .refused .answerNotAdmitted) ∧
    (s.pending = some .srcClose ∨ s.pending = some .sinkClose → s.answer = none →
      s.hostAnswer .ack = .next { s with answer := some .ack } ∧
      s.hostAnswer .ioErr = .refused .answerNotAdmitted ∧
      ∀ b : List Byte, s.hostAnswer (.data b) = .refused .answerNotAdmitted) ∧
    (∀ name : List Byte, s.pending = some (.sinkOpen name) → s.answer = none →
      s.hostAnswer .ack = .next { s with answer := some .ack, sinkFile := [] } ∧
      s.hostAnswer .ioErr = .next { s with answer := some .ioErr } ∧
      ∀ b : List Byte, s.hostAnswer (.data b) = .refused .answerNotAdmitted) ∧
    (∀ bytes : List Byte, s.pending = some (.sinkAppend bytes) → s.answer = none →
      s.hostAnswer .ack = .next { s with answer := some .ack, sinkFile := s.sinkFile ++ bytes } ∧
      s.hostAnswer .ioErr = .next { s with answer := some .ioErr } ∧
      ∀ b : List Byte, s.hostAnswer (.data b) = .refused .answerNotAdmitted) ∧
    (s.pending = none ∨ s.answer ≠ none → ∀ x : FileAnswer, s.hostAnswer x = .refused .answerWithoutRequest)

/-- From the sender's start, with the bytes junk (no BOT among them) and then BOT in rxq, the block's steps transmit
one BOT, discard junk, take the BOT and stand at header byte 0, with HBUF, whose 88 bytes are then those of encode(h,
SESS.cfg) for the sender's header, alone changed besides; with no BOT in rxq the sender transmits its BOT, discards
what there is and holds at the wait (R201). -/
def Obligations.SenderOpensTheSession : Prop :=
  ∀ (s : State) (junk rest : List Byte), s.pos = .sSendBot → s.agenda = [] → 0x02#8 ∉ junk →
    (s.rxq = junk ++ 0x02#8 :: rest → ∃ hb : Memory,
      runSteps (junk.length + 2) s =
        .next { s with txq := s.txq ++ [0x02#8], rxq := rest, hbuf := hb, pos := .sHeader 0 } ∧
      (s.hbuf.wf = true → hb.wf = true ∧
        hb.readRange 0 88 = encodeHeader
          { fileSize := s.sess.fs, chunkSize := s.sess.cs, crcX := s.sess.cfg.xorout,
            fileName := (nameBytes s.name).takeWhile (· != 0#8), poly := s.sess.cfg.poly,
            initX := s.sess.cfg.init, crcCheck := 0#32 } s.sess.cfg ∧
        ∀ a : Nat, 88 ≤ a → hb.read a = s.hbuf.read a)) ∧
    (s.rxq = junk → ∀ n : Nat,
      runSteps (junk.length + 1 + n) s =
        .next { s with txq := s.txq ++ [0x02#8], rxq := [], pos := .sAwaitPeer })

/-- From S_AWAIT_PEER with BOT at the head of rxq, 89 steps of the block transmit exactly the 88 bytes of encode(h,
SESS.cfg) with the fields of the sender's header, read no other byte, and start chunk 0 with RETRY_CNT 0 at its load;
HBUF then holds these 88 bytes, every other address of it reads as before, and nothing else changes (R202). -/
def Obligations.SenderSendsTheHeader : Prop :=
  ∀ (s : State) (rest : List Byte), s.pos = .sAwaitPeer → s.agenda = [] → s.rxq = 0x02#8 :: rest →
    s.hbuf.wf = true →
    let header : List Byte := encodeHeader
      { fileSize := s.sess.fs, chunkSize := s.sess.cs, crcX := s.sess.cfg.xorout,
        fileName := (nameBytes s.name).takeWhile (· != 0#8), poly := s.sess.cfg.poly,
        initX := s.sess.cfg.init, crcCheck := 0#32 } s.sess.cfg
    ∃ hb : Memory, hb.wf = true ∧ hb.readRange 0 88 = header ∧
      (∀ a : Nat, 88 ≤ a → hb.read a = s.hbuf.read a) ∧
      runSteps 89 s = .next { s with
        txq := s.txq ++ header, rxq := rest, hbuf := hb
        sess := { s.sess with len := if 0#32 < s.res.numFull then s.sess.p else s.res.remSize }
        res := { s.res with chunkIdx := 0#32, retryCnt := 0#8 }
        pos := .sLoad }

/-- At a load the sender issues SrcRead(i * P, len); answered with Data(payload), BUF holds the payload and then le32
of its checksum under SESS.cfg, the rest of BUF is as before and the first attempt follows; answered with IoErr, the
session raises LOCAL_IO_ERROR(SRC_READ) through its close; nothing else changes (R204, R335, R314). -/
def Obligations.SenderLoadsTheChunk : Prop :=
  ∀ (s : State) (rest : List Turn), s.pos = .sLoad → s.answer = none →
    (∀ payload : List Byte, s.agenda = [.block, .answer (.data payload), .block] ++ rest →
      payload.length = s.sess.len.toNat → s.sess.len.toNat + 4 ≤ s.params.chunkBufSize → s.buf.wf = true →
      runSteps 1 s = .next { s with
        agenda := [.answer (.data payload), .block] ++ rest
        pending := some (.srcRead (s.res.chunkIdx * s.sess.p) s.sess.len), pos := .sLoadAns } ∧
      ∃ B : Memory, B.wf = true ∧
        B.readRange 0 (s.sess.len.toNat + 4) = payload ++ le32 (checksum s.sess.cfg payload) ∧
        (∀ a : Nat, s.sess.len.toNat + 4 ≤ a → B.read a = s.buf.read a) ∧
        runSteps 3 s = .next { s with agenda := rest, buf := B, pending := none, pos := .sDiscard }) ∧
    (s.agenda = [.block, .answer .ioErr, .block] ++ rest → s.sess.dir = .send →
      runSteps 3 s = .next { s with
        agenda := rest, pending := none, pos := .sClose (.raised .localIoError .srcRead) })

/-- From the start of an attempt the block's steps remove the first k bytes of rxq for some k from 0 to its length
that nothing in the model fixes, then transmit the len + 4 bytes of BUF in order, reading nothing and transmitting
nothing else, and stand at S_WAIT_SYNC with nothing else changed but the model's count of discards (log entry 5)
(R205, R91). -/
def Obligations.SenderTransmitsTheChunkAsOneUnit : Prop :=
  ∀ s : State, s.pos = .sDiscard → s.agenda = [] → s.sess.len.toNat + 4 ≤ s.params.chunkBufSize →
    ∃ k : Nat, k ≤ s.rxq.length ∧
      (∀ n : Nat, n ≤ s.sess.len.toNat + 3 →
        runSteps (n + 1) s = .next { s with
          rxq := s.rxq.drop k, draws := s.draws + 1, txq := s.txq ++ s.buf.readRange 0 n, pos := .sChunk n }) ∧
      runSteps (s.sess.len.toNat + 5) s = .next { s with
        rxq := s.rxq.drop k, draws := s.draws + 1
        txq := s.txq ++ s.buf.readRange 0 (s.sess.len.toNat + 4), pos := .sWaitSync }

/-- At S_WAIT_SYNC, with the bytes junk (no SYNC among them) and then SYNC in rxq, the block's steps discard junk,
take the SYNC, transmit one SYNC and stand at S_WAIT_VERDICT with nothing else changed; with no SYNC in rxq the
sender discards what there is and holds at the wait (R206). -/
def Obligations.SenderEchoesSync : Prop :=
  ∀ (s : State) (junk rest : List Byte), s.pos = .sWaitSync → s.agenda = [] → 0x04#8 ∉ junk →
    (s.rxq = junk ++ 0x04#8 :: rest →
      runSteps (junk.length + 2) s =
        .next { s with txq := s.txq ++ [0x04#8], rxq := rest, pos := .sWaitVerdict }) ∧
    (s.rxq = junk → ∀ n : Nat, runSteps (junk.length + n) s = .next { s with rxq := [] })

/-- At S_WAIT_VERDICT, with the bytes junk (neither SOK nor NOK among them) and then SOK or NOK in rxq, the block's
steps discard junk, take the verdict and do what SOK or NOK does; with neither in rxq the sender discards what there
is and holds at the wait (R207). -/
def Obligations.SenderAwaitsTheVerdict : Prop :=
  ∀ (s : State) (junk rest : List Byte), s.pos = .sWaitVerdict → s.agenda = [] → 0x07#8 ∉ junk → 0x08#8 ∉ junk →
    (s.rxq = junk ++ 0x07#8 :: rest → runSteps (junk.length + 1) s = exec .sok { s with rxq := rest }) ∧
    (s.rxq = junk ++ 0x08#8 :: rest → runSteps (junk.length + 1) s = exec .nok { s with rxq := rest }) ∧
    (s.rxq = junk → ∀ n : Nat, runSteps (junk.length + n) s = .next { s with rxq := [] })

/-- A step reaches the discard that opens an attempt only from the answer to that chunk's load or from a NOK at the
verdict wait, reaches a load only from the header's last byte or from SOK or NOK at the verdict wait, reaches the
load's answer only from the load, and reaches chunk byte k only from the discard (k = 0) or from chunk byte k - 1
(R99). -/
def Obligations.ChunksGoOneAtATime : Prop :=
  ∀ s t : State, step s = .next t → t.pos ≠ s.pos →
    (t.pos = .sDiscard → s.pos = .sLoadAns ∨ (s.pos = .sWaitVerdict ∧ s.rxq.head? = some 0x08#8)) ∧
    (t.pos = .sLoadAns → s.pos = .sLoad) ∧
    (t.pos = .sLoad → (∃ k : Nat, 87 ≤ k ∧ s.pos = .sHeader k) ∨
      (s.pos = .sWaitVerdict ∧ (s.rxq.head? = some 0x07#8 ∨ s.rxq.head? = some 0x08#8))) ∧
    (∀ k : Nat, t.pos = .sChunk k → (k = 0 ∧ s.pos = .sDiscard) ∨ ∃ j : Nat, k = j + 1 ∧ s.pos = .sChunk j)

/-- At R_AWAIT_BOT, with the bytes junk (no BOT among them) and then BOT in rxq, the block's steps discard junk, take
the BOT, transmit one BOT and stand before header byte 0 with nothing else changed, a second BOT left to the header;
with no BOT in rxq the receiver discards what there is and holds at the wait (R241). -/
def Obligations.ReceiverOpensTheSession : Prop :=
  ∀ (s : State) (junk rest : List Byte), s.pos = .rAwaitBot → s.agenda = [] → 0x02#8 ∉ junk →
    (s.rxq = junk ++ 0x02#8 :: rest →
      runSteps (junk.length + 2) s =
        .next { s with txq := s.txq ++ [0x02#8], rxq := rest, pos := .rHeader 0 }) ∧
    (s.rxq = junk → ∀ n : Nat, runSteps (junk.length + n) s = .next { s with rxq := [] })

/-- From the start of the header read with 88 bytes and then rest in rxq, 88 steps take exactly those bytes, whatever
their values, into HBUF; the RX registers and the name buffer take their raw fields and the recomputed checksum
whether or not decode succeeds; on a malformed header the session ends at once with HEADER_ERROR and decode's reason,
and otherwise the sizes and counts come from the header and SinkOpen is next; nothing is transmitted. With fewer than
88 bytes the receiver takes what there is into HBUF and holds. Before header byte k, for every k, one turn of the
block takes the byte at the head of rxq into byte k of HBUF, every other address of HBUF reads as before, and after
byte 87 the 88 bytes of HBUF are reported and accepted or refused in the same turn. That HBUF takes each byte as it
arrives is the model's reading of the rules (log entry 9) (R242, R243, R173, R335, R90, R314). -/
def Obligations.ReceiverReadsTheHeader : Prop :=
  ∀ s : State, s.hbuf.wf = true → s.sess.dir = .receive → s.sinkOpened = false →
    (∀ h rest : List Byte, s.pos = .rHeader 0 → s.agenda = [] → h.length = 88 → s.rxq = h ++ rest →
      ∃ (hb : Memory) (nm : Vector Word 16), hb.wf = true ∧ hb.readRange 0 88 = h ∧
        (∀ a : Nat, 88 ≤ a → hb.read a = s.hbuf.read a) ∧ nameBytes nm = slice h 12 76 ∧
        runSteps 88 s = .next (s.afterHeader rest hb nm h)) ∧
    (s.pos = .rHeader 0 → s.agenda = [] → s.rxq.length < 88 → ∃ hb : Memory,
      hb.wf = true ∧ hb.readRange 0 s.rxq.length = s.rxq ∧
      (∀ a : Nat, s.rxq.length ≤ a → hb.read a = s.hbuf.read a) ∧
      ∀ n : Nat, runSteps (s.rxq.length + n) s =
        .next { s with rxq := [], hbuf := hb, pos := .rHeader s.rxq.length }) ∧
    (∀ (k : Nat) (b : Byte) (r : List Byte), s.pos = .rHeader k → s.rxq = b :: r →
      let hb := s.hbuf.write k b
      hb.wf = true ∧ hb.read k = b ∧ (∀ a : Nat, a ≠ k → hb.read a = s.hbuf.read a) ∧
      (k + 1 < 88 → blockStep s = .next { s with rxq := r, hbuf := hb, pos := .rHeader (k + 1) }) ∧
      (k + 1 = 88 → ∃ nm : Vector Word 16, nameBytes nm = slice (hb.readRange 0 88) 12 76 ∧
        blockStep s = .next (s.afterHeader r hb nm (hb.readRange 0 88))))

/-- For 88 bytes s, decode refuses a negative fileSize as NEG_FILESIZE; otherwise a chunkSize below 5 or above the
buffer as BAD_CHUNKSIZE; otherwise a name field without 0x00 as NAME_UNTERMINATED; otherwise, when strict, a
recomputed checksum that differs from crcCheck as BAD_CHECKSUM; otherwise it accepts the fields, the name ending
before its first 0x00; sizes are read as two's complement (R173, R334, R114, R115). -/
def Obligations.HeaderChecksInOrder : Prop :=
  ∀ (cap : Nat) (cfg : CrcCfg) (strict : Bool) (s : List Byte), s.length = 88 →
    ((fromLe32 s 0).toInt < 0 → decodeHeader cap cfg strict s = .error .negFilesize) ∧
    (0 ≤ (fromLe32 s 0).toInt →
      ((fromLe32 s 4).toInt < 5 ∨ (cap : Int) < (fromLe32 s 4).toInt →
        decodeHeader cap cfg strict s = .error .badChunksize) ∧
      (5 ≤ (fromLe32 s 4).toInt → (fromLe32 s 4).toInt ≤ (cap : Int) →
        (0#8 ∉ slice s 12 76 → decodeHeader cap cfg strict s = .error .nameUnterminated) ∧
        (0#8 ∈ slice s 12 76 → strict = true → checksum cfg (s.take 84) ≠ fromLe32 s 84 →
          decodeHeader cap cfg strict s = .error .badChecksum) ∧
        (0#8 ∈ slice s 12 76 → (strict = true → checksum cfg (s.take 84) = fromLe32 s 84) →
          decodeHeader cap cfg strict s = .ok
            { fileSize := fromLe32 s 0, chunkSize := fromLe32 s 4, crcX := fromLe32 s 8
              fileName := (slice s 12 76).takeWhile (· != 0#8)
              poly := fromLe32 s 76, initX := fromLe32 s 80, crcCheck := fromLe32 s 84 })))

/-- At R_OPEN the receiver issues SinkOpen with the name of the header in HBUF (read there at the issue: log entry
9); on Ack the file is open and emptied and chunk 0 starts with RETRY_CNT 0 and its payload length; on IoErr the
session ends at once with LOCAL_IO_ERROR(SINK_OPEN), with no close issued; nothing is transmitted. What the output
file holds at each answer is the model's record (log entry 14) (R243, R244, R335, R92). -/
def Obligations.ReceiverOpensTheFile : Prop :=
  ∀ (s : State) (rest : List Turn), s.pos = .rOpen → s.answer = none →
    (s.agenda = [.block, .answer .ack, .block] ++ rest →
      runSteps 1 s = .next { s with
        agenda := [.answer .ack, .block] ++ rest
        pending := some (.sinkOpen ((slice (s.hbuf.readRange 0 88) 12 76).takeWhile (· != 0#8))), pos := .rOpenAns } ∧
      runSteps 3 s = .next { s with
        agenda := rest, pending := none, sinkFile := [], sinkOpened := true
        sess := { s.sess with len := if 0#32 < s.res.numFull then s.sess.p else s.res.remSize }
        res := { s.res with chunkIdx := 0#32, retryCnt := 0#8 }
        pos := .rSendEot }) ∧
    (s.agenda = [.block, .answer .ioErr, .block] ++ rest → s.sess.dir = .receive → s.sinkOpened = false →
      runSteps 3 s = .next { s with
        agenda := rest, pending := none, outcome := .localIoError
        res := { s.res with errinfo := .sinkOpen }, pos := .idle, busy := false, done := true })

/-- From the start of an attempt with len + 4 bytes and then rest in rxq, the block's steps transmit EOT, take
exactly those bytes, whatever their values, into BUF, and record in SESS.ok whether the checksum of the first len
bytes under SESS.cfg equals from_le32 of the last four, with nothing else changed; with fewer bytes the receiver
takes what there is into BUF and holds. Before chunk byte k, for every k below len + 4, one turn of the block takes
the byte at the head of rxq into byte k of BUF, every other address of BUF reads as before, and the turn of the last
byte makes the check. That BUF takes each byte as it arrives is the model's reading of the rules (log entry 9)
(R245, R246, R90, R314). -/
def Obligations.ReceiverReadsTheChunk : Prop :=
  (∀ s : State, s.pos = .rSendEot → s.agenda = [] → s.buf.wf = true →
    s.sess.len.toNat + 4 ≤ s.params.chunkBufSize →
    (∀ payload trailer rest : List Byte, payload.length = s.sess.len.toNat → trailer.length = 4 →
      s.rxq = payload ++ trailer ++ rest →
      ∃ B : Memory, B.wf = true ∧ B.readRange 0 (s.sess.len.toNat + 4) = payload ++ trailer ∧
        (∀ a : Nat, s.sess.len.toNat + 4 ≤ a → B.read a = s.buf.read a) ∧
        runSteps (s.sess.len.toNat + 5) s = .next { s with
          txq := s.txq ++ [0x01#8], rxq := rest, buf := B
          sess := { s.sess with ok := decide (checksum s.sess.cfg payload = fromLe32 trailer) }
          pos := .rSendSync }) ∧
    (s.rxq.length < s.sess.len.toNat + 4 → ∃ B : Memory,
      B.wf = true ∧ B.readRange 0 s.rxq.length = s.rxq ∧
      (∀ a : Nat, s.rxq.length ≤ a → B.read a = s.buf.read a) ∧
      ∀ n : Nat, runSteps (1 + s.rxq.length + n) s = .next { s with
        txq := s.txq ++ [0x01#8], rxq := [], buf := B, pos := .rChunk s.rxq.length })) ∧
  (∀ (s : State) (k : Nat) (b : Byte) (r : List Byte), s.pos = .rChunk k → s.rxq = b :: r → s.buf.wf = true →
    s.sess.len.toNat + 4 ≤ s.params.chunkBufSize →
    let B := s.buf.write k b
    B.wf = true ∧ B.read k = b ∧ (∀ a : Nat, a ≠ k → B.read a = s.buf.read a) ∧
    (k + 1 < s.sess.len.toNat + 4 → blockStep s = .next { s with rxq := r, buf := B, pos := .rChunk (k + 1) }) ∧
    (k + 1 = s.sess.len.toNat + 4 → blockStep s = .next { s with
      rxq := r, buf := B
      sess := { s.sess with
        ok := decide (checksum s.sess.cfg (B.readRange 0 s.sess.len.toNat) =
          fromLe32 (B.readRange s.sess.len.toNat 4)) }
      pos := .rSendSync }))

/-- After the check, with the bytes junk (no SYNC among them) and then SYNC in rxq, the block's steps transmit one
SYNC, discard junk, take the SYNC and stand before the verdict with nothing else changed; with no SYNC in rxq the
receiver transmits its SYNC, discards what there is and holds at the wait (R247). -/
def Obligations.ReceiverHoldsTheBarrier : Prop :=
  ∀ (s : State) (junk rest : List Byte), s.pos = .rSendSync → s.agenda = [] → 0x04#8 ∉ junk →
    (s.rxq = junk ++ 0x04#8 :: rest →
      runSteps (junk.length + 2) s =
        .next { s with txq := s.txq ++ [0x04#8], rxq := rest, pos := .rSendVerdict }) ∧
    (s.rxq = junk → ∀ n : Nat,
      runSteps (junk.length + 1 + n) s =
        .next { s with txq := s.txq ++ [0x04#8], rxq := [], pos := .rWaitSync })

/-- On a match the receiver transmits SOK and goes to commit. On a mismatch, with RETRY_CNT below SESS.rc, it
transmits NOK and adds 1 to RETRY_CNT and NOK_TOTAL; while the count stays below SESS.rc the next attempt begins; at
SESS.rc EXHAUSTED is set, and the strict session raises RETRY_EXHAUSTED(RETRY_LIMIT) through its close while the
lenient one commits the bytes last received (R248, R249). -/
def Obligations.ReceiverVerdict : Prop :=
  ∀ s : State, s.pos = .rSendVerdict →
    (s.sess.ok = true → blockStep s = .next { s with txq := s.txq ++ [0x07#8], pos := .rCommit }) ∧
    (s.sess.ok = false → s.sess.dir = .receive → s.sinkOpened = true → s.res.retryCnt.toNat < s.sess.rc.toNat →
      let counted : State := { s with
        txq := s.txq ++ [0x08#8]
        res := { s.res with retryCnt := s.res.retryCnt + 1#8, nokTotal := s.res.nokTotal + 1#32 } }
      counted.res.retryCnt.toNat = s.res.retryCnt.toNat + 1 ∧
      (s.res.retryCnt.toNat + 1 < s.sess.rc.toNat → blockStep s = .next { counted with pos := .rSendEot }) ∧
      (s.res.retryCnt.toNat + 1 = s.sess.rc.toNat → s.sess.rstrict = true →
        blockStep s = .next { counted with
          exhausted := true, pos := .rClose (.raised .retryExhausted .retryLimit) }) ∧
      (s.res.retryCnt.toNat + 1 = s.sess.rc.toNat → s.sess.rstrict = false →
        blockStep s = .next { counted with exhausted := true, pos := .rCommit }))

/-- At a commit the receiver issues SinkAppend of the first len bytes of BUF; on Ack the output file ends with them
and the next chunk starts, or after the remainder chunk the close follows; on IoErr the session raises
LOCAL_IO_ERROR(SINK_APPEND) through its close; nothing is transmitted. What the output file holds is the model's
record (log entry 14) (R250, R244, R335, R92). -/
def Obligations.ReceiverCommits : Prop :=
  ∀ (s : State) (rest : List Turn), s.pos = .rCommit → s.answer = none →
    s.sess.len.toNat + 4 ≤ s.params.chunkBufSize →
    let payload := s.buf.readRange 0 s.sess.len.toNat
    (s.agenda = [.block, .answer .ack, .block] ++ rest →
      runSteps 1 s = .next { s with
        agenda := [.answer .ack, .block] ++ rest, pending := some (.sinkAppend payload), pos := .rCommitAns } ∧
      (s.res.chunkIdx.toNat < s.res.numFull.toNat → runSteps 3 s = .next { s with
        agenda := rest, pending := none, sinkFile := s.sinkFile ++ payload
        sess := { s.sess with
          len := if s.res.chunkIdx + 1#32 < s.res.numFull then s.sess.p else s.res.remSize }
        res := { s.res with chunkIdx := s.res.chunkIdx + 1#32, retryCnt := 0#8 }
        pos := .rSendEot }) ∧
      (s.res.numFull.toNat ≤ s.res.chunkIdx.toNat → runSteps 3 s = .next { s with
        agenda := rest, pending := none, sinkFile := s.sinkFile ++ payload, pos := .rClose .finish })) ∧
    (s.agenda = [.block, .answer .ioErr, .block] ++ rest → s.sess.dir = .receive → s.sinkOpened = true →
      runSteps 3 s = .next { s with
        agenda := rest, pending := none, pos := .rClose (.raised .localIoError .sinkAppend) })

/-- A raise takes the sender, and a receiver with its output file open, to a close that carries the outcome, and ends
any other receiver at once. A close issues SrcClose or SinkClose; the step that takes its Ack writes OUTCOME
(SUCCESS, or SUCCESS_EXHAUSTED when EXHAUSTED is set, or the raised outcome) and ERRINFO, returns to idle, clears
BUSY and sets DONE, transmitting nothing; an idle block then changes nothing (R335, R210, R251, R331, R332). -/
def Obligations.SessionsEnd : Prop :=
  (∀ (s : State) (o : SessionOutcome) (d : Detail),
    (s.sess.dir = .send → s.raise o d = { s with pos := .sClose (.raised o d) }) ∧
    (s.sess.dir = .receive → s.sinkOpened = true → s.raise o d = { s with pos := .rClose (.raised o d) }) ∧
    (s.sess.dir = .receive → s.sinkOpened = false → s.raise o d = { s with
      outcome := o, res := { s.res with errinfo := d }, pos := .idle, busy := false, done := true })) ∧
  (∀ (s : State) (e : Ending) (rest : List Turn),
    (s.pos = .sClose e ∨ s.pos = .rClose e) → s.answer = none → s.agenda = [.block, .answer .ack, .block] ++ rest →
    let ended : State := { s with
      agenda := rest, pending := none
      outcome := match e with
        | .finish => if s.exhausted then .successExhausted else .success
        | .raised o _ => o
      res := { s.res with errinfo := match e with
        | .finish => .noError
        | .raised _ d => d }
      pos := .idle, busy := false, done := true, sinkOpened := false }
    runSteps 1 s = .next { s with
      agenda := [.answer .ack, .block] ++ rest
      pending := some (if s.pos = .sClose e then .srcClose else .sinkClose)
      pos := if s.pos = .sClose e then .sCloseAns e else .rCloseAns e } ∧
    runSteps 3 s = .next ended ∧ blockStep ended = .next ended)

/-- A reset turn, in any state, gives every register its reset value (the two OPEN defaults among them), makes the
controller idle with no request pending, records no outcome, transmits nothing, recalls no transmitted byte, discards
no received byte and leaves the output file as it is; an answer that comes after it is refused. What SESS, BUF and
HBUF then hold is left out of the statement (R370, R371, R372). -/
def Obligations.ResetTurn : Prop :=
  ∀ (s : State) (rest : List Turn), s.agenda = .reset :: rest → ∃ (sess : Sess) (buf hbuf : Memory) (t : State),
    step s = .next t ∧
    t = { params := s.params
          ctrl := 0xC#4, busy := false, done := false, werr := false, exhausted := false, outcome := .noOutcome
          dir := .send, retrycount := s.params.retrycountDefault, chunkSize := s.params.chunkSizeDefault
          fileSize := 0#32, crcPoly := 0x04C11DB7#32, crcInit := 0xFFFFFFFF#32, crcXorout := 0xFFFFFFFF#32
          crcAcc := 0xFFFFFFFF#32
          res := {
            chunkIdx := 0#32, retryCnt := 0#8, numFull := 0#32, remSize := 0#32, rxFileSize := 0#32
            rxChunkSize := 0#32, rxCrcx := 0#32, rxPoly := 0#32, rxInitx := 0#32, rxHdrCrc := 0#32
            rxHdrCalc := 0#32, nokTotal := 0#32, errinfo := .noError }
          name := Vector.replicate 16 0#32
          sess := sess, buf := buf, hbuf := hbuf
          pos := .idle, pending := none, answer := none, sinkOpened := false
          rxq := s.rxq, txq := s.txq, sinkFile := s.sinkFile
          draws := s.draws, agenda := rest, trace := s.trace } ∧
    ∀ x : FileAnswer, t.hostAnswer x = .refused .answerWithoutRequest

/-- From State.reset, reading each register returns its reset value of the register table: CTRL 0xC, the CRC
configuration and CRC_ACC their standard values, every other register but RETRYCOUNT and CHUNK_SIZE 0, CRC_OUT
included; RETRYCOUNT and CHUNK_SIZE read their OPEN defaults, 1..255 and 5..CHUNK_BUF_SIZE (log entry 4); and a SEND
then, with these defaults and the empty name, is accepted with STATUS 0x00010001 (R32, R370, R45, R7, R300). -/
def Obligations.ResetValues : Prop :=
  (∀ x ∈ ([
      (.rdCtrl, 0xC#32), (.rdCmd, 0#32), (.rdStatus, 0#32), (.rdFileSize, 0#32), (.rdCrcPoly, 0x04C11DB7#32),
      (.rdCrcInit, 0xFFFFFFFF#32), (.rdCrcXorout, 0xFFFFFFFF#32), (.rdCrcDin, 0#32), (.rdCrcAcc, 0xFFFFFFFF#32),
      (.rdCrcOut, 0#32), (.rdChunkIdx, 0#32), (.rdRetryCnt, 0#32), (.rdNumFull, 0#32), (.rdRemSize, 0#32),
      (.rdRxFileSize, 0#32), (.rdRxChunkSize, 0#32), (.rdRxCrcx, 0#32), (.rdRxPoly, 0#32), (.rdRxInitx, 0#32),
      (.rdRxHdrCrc, 0#32), (.rdRxHdrCalc, 0#32), (.rdNokTotal, 0#32), (.rdErrinfo, 0#32)
    ] : List (Instr × Word)), exec x.1 State.reset = .next { State.reset with trace := [x.2] }) ∧
  (∀ k : BitVec 4, exec (.rdName k) State.reset = .next { State.reset with trace := [0#32] }) ∧
  (∃ rc cs : Word,
    exec .rdRetrycount State.reset = .next { State.reset with trace := [rc] } ∧ 1 ≤ rc.toNat ∧ rc.toNat ≤ 255 ∧
    exec .rdChunkSize State.reset = .next { State.reset with trace := [cs] } ∧
    5 ≤ cs.toNat ∧ cs.toNat ≤ State.reset.params.chunkBufSize) ∧
  (∃ t : State, exec .send State.reset = .next t ∧ t.busy = true ∧ t.pos = .sSendBot ∧
    t.statusWord = 0x00010001#32 ∧ t.res.numFull = 0#32 ∧ t.res.remSize = 0#32)

/-- State.reset satisfies the invariant: buffers in canonical form and inside their capacity, BUSY exactly while a
session runs, outcome and detail agreeing, snapshot, sizes, counters, request and output file as the rules leave
them (R370, R35, R332). -/
def Obligations.InvariantHoldsAtReset : Prop :=
  State.reset.Inv

/-- For every state s that satisfies the invariant, whatever turn comes next, if the step answers a next state then
that state satisfies the invariant: canonical buffers inside their capacity, BUSY and the session flags, OUTCOME with
its detail, the snapshot equal to the locked registers, the direction of the position, sizes and counts, CHUNK_IDX up
to NUM_FULL, RETRY_CNT up to RETRYCOUNT, the pending request of the position, and the length of the output file
(R35, R46, R47, R63, R64, R117, R203, R244, R252, R305, R332, R335). -/
def Obligations.InvariantIsKept : Prop :=
  ∀ s t : State, s.Inv → step s = .next t → t.Inv

/-- In a state that satisfies the invariant a step answers a next state, unless the next turn is a host access that
is not admitted, refused as such, or a host answer that no waiting request admits, refused as such; a block's turn
always answers a next state, and no step faults (R82, R92, R330, R314). -/
def Obligations.OnlyTheOtherAgentsAreRefused : Prop :=
  ∀ s : State, s.Inv →
    (∃ t : State, step s = .next t) ∨
    (∃ a : HostAccess, s.nextTurn = .access a ∧ a.admitted = false ∧ step s = .refused .accessNotAdmitted) ∨
    (∃ x : FileAnswer, s.nextTurn = .answer x ∧
      (∀ r : FileRequest, s.pending = some r → s.answer = none → r.admits x = false) ∧
      (step s = .refused .answerNotAdmitted ∨ step s = .refused .answerWithoutRequest))

/-- A step that sets BUSY is a host access that decodes to SEND or RECEIVE; a step that clears BUSY is a reset, or a
turn of the block that sets DONE and returns to idle (R35, R335, R339). -/
def Obligations.BusyRisesAndFalls : Prop :=
  ∀ s t : State, step s = .next t →
    (s.busy = false → t.busy = true → s.nextTurn.instr = some .send ∨ s.nextTurn.instr = some .receive) ∧
    (s.busy = true → t.busy = false →
      s.nextTurn = .reset ∨ (s.nextTurn = .block ∧ t.done = true ∧ t.pos = .idle))

/-- A step that changes CRC_ACC is a host access that decodes to CRC_CLEAR or CRC_UPDATE, or a reset; no step of a
session changes it (R44, R150, R370). -/
def Obligations.CrcAccIsTheHostChannelsAlone : Prop :=
  ∀ s t : State, step s = .next t → t.crcAcc ≠ s.crcAcc →
    s.nextTurn = .reset ∨ s.nextTurn.instr = some .crcClear ∨
    ∃ data : Word, s.nextTurn.instr = some (.crcUpdate data)

/-- With BUSY 1, a host access changes at most WERR, DONE, CRC_ACC and the record of what the host has read: the
registers, the snapshot, the results, the buffers, the position, the pending request, the link and the file stay as
they are (R305, R84, R145, R146, R302, R306, R312). -/
def Obligations.HostAccessesDoNotDisturbASession : Prop :=
  ∀ (s t : State) (a : HostAccess), s.busy = true → hostAccess a s = .next t →
    t = { s with werr := t.werr, done := t.done, crcAcc := t.crcAcc, trace := t.trace } ∧
    (t.done = true → s.done = true)

/-- With BUSY 1, a step that is no reset leaves CTRL, RETRYCOUNT, CHUNK_SIZE, FILE_SIZE, the CRC configuration and
the snapshot's direction, CRC configuration, retry count and strict flags as they are, and at the sender's positions
also the snapshot's FILE_SIZE, CHUNK_SIZE and P, and the name buffer (R305, R374, R63, R378). -/
def Obligations.ConfigurationIsLockedWhileBusy : Prop :=
  ∀ s t : State, step s = .next t → s.busy = true → s.nextTurn ≠ .reset →
    t.ctrl = s.ctrl ∧ t.retrycount = s.retrycount ∧ t.chunkSize = s.chunkSize ∧ t.fileSize = s.fileSize ∧
    t.crcPoly = s.crcPoly ∧ t.crcInit = s.crcInit ∧ t.crcXorout = s.crcXorout ∧
    t.sess.dir = s.sess.dir ∧ t.sess.cfg = s.sess.cfg ∧ t.sess.rc = s.sess.rc ∧
    t.sess.hstrict = s.sess.hstrict ∧ t.sess.rstrict = s.sess.rstrict ∧
    (s.pos.ofSender = true →
      t.sess.fs = s.sess.fs ∧ t.sess.cs = s.sess.cs ∧ t.sess.p = s.sess.p ∧ t.name = s.name)

/-- In a state of the invariant with BUSY 0, a step that is neither a reset nor a host access that decodes to SEND or
RECEIVE leaves every session-result register, OUTCOME and EXHAUSTED as they are (R62, R306, R335). -/
def Obligations.ResultsStayAfterTheSession : Prop :=
  ∀ s t : State, s.Inv → s.busy = false → step s = .next t → s.nextTurn ≠ .reset →
    s.nextTurn.instr ≠ some .send → s.nextTurn.instr ≠ some .receive →
    t.res = s.res ∧ t.outcome = s.outcome ∧ t.exhausted = s.exhausted

/-- From a state of the invariant, a step that ends a session with SUCCESS or SUCCESS_EXHAUSTED finds CHUNK_IDX at
NUM_FULL, and NUM_FULL times P plus REM_SIZE equal to SESS.fs with REM_SIZE below P; after a receive the output file,
as the model records it (log entry 14), holds exactly SESS.fs bytes (R212, R252, R117, R200, R250). -/
def Obligations.SuccessMeansEveryChunk : Prop :=
  ∀ s t : State, s.Inv → step s = .next t → s.busy = true → t.busy = false →
    (t.outcome = .success ∨ t.outcome = .successExhausted) →
    t.res.chunkIdx = t.res.numFull ∧
    t.res.numFull.toNat * t.sess.p.toNat + t.res.remSize.toNat = t.sess.fs.toNat ∧
    t.res.remSize.toNat < t.sess.p.toNat ∧
    (t.sess.dir = .receive → t.sinkFile.length = t.sess.fs.toNat)

/-- In a state of the invariant with BUSY 1, a step that is no reset and enters the chunk sequence sets CHUNK_IDX to
0; a step inside it leaves NUM_FULL, REM_SIZE and P as they are and either leaves CHUNK_IDX or, where it is below
NUM_FULL, adds 1 to it; a step that enters a normal close comes from inside the sequence and finds CHUNK_IDX at
NUM_FULL. Both are the block's turn that takes SOK, or the NOK that exhausts a chunk of a lenient sender, at the
verdict wait, or the acknowledged append of the receiver (R203, R212, R244, R250, R117). -/
def Obligations.ChunkIndexGoesFromZeroToNumFull : Prop :=
  ∀ s t : State, s.Inv → step s = .next t → s.busy = true → s.nextTurn ≠ .reset →
    let chunkDone : Prop := s.nextTurn = .block ∧
      ((s.pos = .sWaitVerdict ∧ s.rxq.head? = some 0x07#8) ∨
       (s.pos = .sWaitVerdict ∧ s.rxq.head? = some 0x08#8 ∧ s.sess.rstrict = false ∧
         s.res.retryCnt.toNat + 1 = s.sess.rc.toNat) ∨
       (s.pos = .rCommitAns ∧ s.answer = some .ack))
    (s.pos.inChunk = false → t.pos.inChunk = true → t.res.chunkIdx = 0#32) ∧
    (s.pos.inChunk = true →
      t.res.numFull = s.res.numFull ∧ t.res.remSize = s.res.remSize ∧ t.sess.p = s.sess.p ∧
      (t.res.chunkIdx = s.res.chunkIdx ∨
        (t.res.chunkIdx.toNat = s.res.chunkIdx.toNat + 1 ∧ s.res.chunkIdx.toNat < s.res.numFull.toNat ∧
          chunkDone))) ∧
    ((t.pos = .sClose .finish ∨ t.pos = .rClose .finish) → t.pos ≠ s.pos →
      s.pos.inChunk = true ∧ s.res.chunkIdx = s.res.numFull ∧ t.res.chunkIdx = s.res.chunkIdx ∧ chunkDone)

/-- checksum(cfg, s ++ t) is crc_final of the fold of crc_step over t from the fold over s from init; a step depends
on the configuration only through poly and refin, and with refin set is the step of the bit-reversed byte without it;
crc_final with refout is the bit-reversed register XORed with xorout, and without it the register XORed with xorout;
under the reset configuration the bytes 0x31 to 0x39 leave the register at 0x9B63D02C and have the checksum
0xCBF43926 (R149, R141, R142, R143, R144, R11). -/
def Obligations.CrcFoldsAndReflects : Prop :=
  (∀ (cfg : CrcCfg) (s t : List Byte),
    checksum cfg (s ++ t) = crcFinal cfg (t.foldl (crcStep cfg) (s.foldl (crcStep cfg) cfg.init))) ∧
  (∀ (cfg cfg' : CrcCfg) (reg : Word) (b : Byte), cfg'.poly = cfg.poly →
    (cfg'.refin = cfg.refin → crcStep cfg' reg b = crcStep cfg reg b) ∧
    (cfg.refin = true → cfg'.refin = false → crcStep cfg reg b = crcStep cfg' reg b.reverse)) ∧
  (∀ (cfg : CrcCfg) (reg : Word),
    (cfg.refout = true → crcFinal cfg reg = reg.reverse ^^^ cfg.xorout) ∧
    (cfg.refout = false → crcFinal cfg reg = reg ^^^ cfg.xorout)) ∧
  (∀ (x : Word) (i : Nat), i < 32 → x.reverse.getLsbD i = x.getLsbD (31 - i)) ∧
  (∀ (b : Byte) (i : Nat), i < 8 → b.reverse.getLsbD i = b.getLsbD (7 - i)) ∧
  (let bytes : List Byte := [0x31#8, 0x32#8, 0x33#8, 0x34#8, 0x35#8, 0x36#8, 0x37#8, 0x38#8, 0x39#8]
   State.reset.cfgNow = (⟨0x04C11DB7#32, 0xFFFFFFFF#32, 0xFFFFFFFF#32, true, true⟩ : CrcCfg) ∧
   crcFeed State.reset.cfgNow 0xFFFFFFFF#32 bytes = 0x9B63D02C#32 ∧
   checksum State.reset.cfgNow bytes = 0xCBF43926#32)

/-- With refin set, bit-reversing the register after a step gives what eight right shifts give from the bit-reversed
register, taking the byte's bits from bit 0 up and XORing in the bit-reversed polynomial exactly when the bit shifted
out differs from the input bit (R141, R11, R144). -/
def Obligations.ReflectedCrcShiftsRight : Prop :=
  ∀ (cfg : CrcCfg) (reg : Word) (b : Byte), cfg.refin = true →
    (crcStep cfg reg b).reverse =
      [0, 1, 2, 3, 4, 5, 6, 7].foldl
        (fun (r : Word) (j : Nat) =>
          (r >>> 1) ^^^ (if r.getLsbD 0 ≠ b.getLsbD j then cfg.poly.reverse else 0#32))
        reg.reverse

/-- With poly 0x04C11DB7, whatever init, xorout, refin and refout are, two byte sequences that differ in exactly one
byte have different checksums (R149, R253). -/
def Obligations.SingleByteChangeIsDetected : Prop :=
  ∀ (cfg : CrcCfg) (s t : List Byte) (b c : Byte), cfg.poly = 0x04C11DB7#32 → b ≠ c →
    checksum cfg (s ++ b :: t) ≠ checksum cfg (s ++ c :: t)

/-- When the host writes 3 to CMD, then the bytes to CRC_DIN in order, then reads CRC_OUT, busy or not, the value
returned is the checksum of the bytes under the configuration the registers hold, and nothing changes but CRC_ACC and
the host's record of what it has read (R147, R143, R145, R146). -/
def Obligations.HostChannelComputesTheChecksum : Prop :=
  (∀ (s : State) (bytes : List Byte) (rest : List Turn),
    s.agenda = accessTurns (writeAccess 0x04#8 3#32 ::
      (bytes.map (fun b => writeAccess 0x24#8 (b.setWidth 32)) ++ [readAccess 0x2C#8])) ++ rest →
    runSteps (bytes.length + 2) s = .next { s with
      agenda := rest
      crcAcc := bytes.foldl (crcStep s.cfgNow) s.crcInit
      trace := s.trace ++ [checksum s.cfgNow bytes] }) ∧
  (∀ s : State, decode (.bus (busDesc false 0x2C#8 0#32)) = .ok .rdCrcOut ∧
    exec .rdCrcOut s = .next { s with trace := s.trace ++ [crcFinal s.cfgNow s.crcAcc] })

/-- For a name of at most 63 bytes encode gives 88 bytes: fileSize, chunkSize and crcX at 0, 4 and 8, the name with
its 0x00 and zero fill at 12 to 75, poly and initX at 76 and 80, and at 84 the checksum of bytes 0 to 83, each
integer least significant byte first; the crcCheck given as input does not matter (R172). -/
def Obligations.HeaderLayout : Prop :=
  ∀ (h : Header) (cfg : CrcCfg), h.fileName.length ≤ 63 →
    let e := encodeHeader h cfg
    e.length = 88 ∧
    slice e 0 4 = le32 h.fileSize ∧ slice e 4 8 = le32 h.chunkSize ∧ slice e 8 12 = le32 h.crcX ∧
    slice e 12 76 = h.fileName ++ 0#8 :: List.replicate (63 - h.fileName.length) 0#8 ∧
    slice e 76 80 = le32 h.poly ∧ slice e 80 84 = le32 h.initX ∧
    slice e 84 88 = le32 (checksum cfg (slice e 0 84)) ∧
    ∀ c : Word, encodeHeader { h with crcCheck := c } cfg = e

/-- For every header valid under cfg and both values of strict, decode of encode accepts with that header, and the
recomputed checksum is its crcCheck. For every 88 bytes that decode to a header, encoding that header gives the same
bytes 0 to 83 except after the name's first 0x00, where it writes 0x00; with strict 1 and only 0x00 after the name,
it gives the same 88 bytes. (R175 says so of bytes 84 to 87 under other padding too, which the checksum over the
changed padding contradicts: log entry 19) (R175, R171, R172, R173). -/
def Obligations.HeaderRoundTrip : Prop :=
  (∀ (cap : Nat) (cfg : CrcCfg) (h : Header) (strict : Bool), h.Valid cap cfg →
    decodeHeader cap cfg strict (encodeHeader h cfg) = .ok h ∧ headerCalc cfg (encodeHeader h cfg) = h.crcCheck) ∧
  (∀ (cap : Nat) (cfg : CrcCfg) (h : Header) (strict : Bool) (s : List Byte), s.length = 88 →
    decodeHeader cap cfg strict s = .ok h →
    (∀ i : Nat, i < 84 →
      (encodeHeader h cfg)[i]? = if 12 + h.fileName.length ≤ i ∧ i < 76 then some 0#8 else s[i]?) ∧
    (strict = true → (∀ i : Nat, 12 + h.fileName.length ≤ i → i < 76 → s[i]? = some 0#8) → encodeHeader h cfg = s))
end

