-- ==== Sys2Proof/Laws/Bits.lean ====
section
/-! SUPPORT. The laws of the byte order, of bit reflection, of the descriptor's fields and of the header's layout. -/

namespace Sys2Proof

/-! ### The descriptor (30_encoding.md R118) -/

@[simp] theorem descWrite_busDesc (w : Bool) (off : BitVec 8) (data : Word) : descWrite (busDesc w off data) = w := by
  unfold descWrite busDesc
  rw [BitVec.getLsbD_append, if_neg (by omega), BitVec.getLsbD_append, if_neg (by omega)]
  simp

@[simp] theorem descOff_busDesc (w : Bool) (off : BitVec 8) (data : Word) : descOff (busDesc w off data) = off := by
  unfold descOff busDesc
  ext i hi
  simp only [BitVec.getElem_extractLsb', BitVec.getLsbD_append]
  rw [if_neg (by omega), if_pos (by omega), show 32 + i - 32 = i by omega, BitVec.getLsbD_eq_getElem]

@[simp] theorem descData_busDesc (w : Bool) (off : BitVec 8) (data : Word) : descData (busDesc w off data) = data := by
  unfold descData busDesc
  ext i hi
  simp only [BitVec.getElem_extractLsb', BitVec.getLsbD_append]
  rw [if_pos (by omega), Nat.zero_add, BitVec.getLsbD_eq_getElem]

/-- A descriptor is its three fields. -/
theorem busDesc_fields (d : BitVec 41) : busDesc (descWrite d) (descOff d) (descData d) = d := by
  unfold busDesc descWrite descOff descData
  ext i hi
  simp only [BitVec.getElem_append, BitVec.getElem_extractLsb', BitVec.getElem_ofBool]
  split
  · simp [BitVec.getLsbD_eq_getElem hi]
  · split
    · rw [show 32 + (i - 32) = i by omega, BitVec.getLsbD_eq_getElem hi]
    · obtain rfl : i = 40 := by omega
      exact BitVec.getLsbD_eq_getElem (by omega)

@[simp] theorem nameOffset_index (k : BitVec 4) : (nameOffset k).extractLsb' 2 4 = k := by
  revert k; decide

@[simp] theorem nameOffset_top (k : BitVec 4) : (nameOffset k).extractLsb' 6 2 = 2#2 := by
  revert k; decide

theorem nameOffset_toNat (k : BitVec 4) : (nameOffset k).toNat = 0x80 + 4 * k.toNat := by
  revert k; decide

namespace Machine

/-! ### Byte order (00_scope.md R10) -/

@[simp] theorem le32_length (x : Word) : (le32 x).length = 4 := rfl

@[simp] theorem wordOfBytes_split (x : Word) :
    wordOfBytes (x.extractLsb' 0 8) (x.extractLsb' 8 8) (x.extractLsb' 16 8) (x.extractLsb' 24 8) = x := by
  unfold wordOfBytes
  ext i hi
  simp only [BitVec.getElem_append, BitVec.getElem_extractLsb']
  split
  · simp [BitVec.getLsbD_eq_getElem hi]
  · split
    · rw [show 8 + (i - 8) = i by omega, BitVec.getLsbD_eq_getElem hi]
    · split
      · rw [show 16 + (i - 8 - 8) = i by omega, BitVec.getLsbD_eq_getElem hi]
      · rw [show 24 + (i - 8 - 8 - 8) = i by omega, BitVec.getLsbD_eq_getElem hi]

/-- `from_le32(le32(x)) = x` (R10). -/
@[simp] theorem fromLe32_le32 (x : Word) : fromLe32 (le32 x) 0 = x := wordOfBytes_split x

theorem wordOfBytes_byte0 (b0 b1 b2 b3 : Byte) : (wordOfBytes b0 b1 b2 b3).extractLsb' 0 8 = b0 := by
  unfold wordOfBytes
  ext i hi
  simp only [BitVec.getElem_extractLsb', BitVec.getLsbD_append]
  rw [if_pos (by omega), Nat.zero_add, BitVec.getLsbD_eq_getElem]

theorem wordOfBytes_byte1 (b0 b1 b2 b3 : Byte) : (wordOfBytes b0 b1 b2 b3).extractLsb' 8 8 = b1 := by
  unfold wordOfBytes
  ext i hi
  simp only [BitVec.getElem_extractLsb', BitVec.getLsbD_append]
  rw [if_neg (by omega), if_pos (by omega), show 8 + i - 8 = i by omega, BitVec.getLsbD_eq_getElem]

theorem wordOfBytes_byte2 (b0 b1 b2 b3 : Byte) : (wordOfBytes b0 b1 b2 b3).extractLsb' 16 8 = b2 := by
  unfold wordOfBytes
  ext i hi
  simp only [BitVec.getElem_extractLsb', BitVec.getLsbD_append]
  rw [if_neg (by omega), if_neg (by omega), if_pos (by omega), show 16 + i - 8 - 8 = i by omega,
    BitVec.getLsbD_eq_getElem]

theorem wordOfBytes_byte3 (b0 b1 b2 b3 : Byte) : (wordOfBytes b0 b1 b2 b3).extractLsb' 24 8 = b3 := by
  unfold wordOfBytes
  ext i hi
  simp only [BitVec.getElem_extractLsb', BitVec.getLsbD_append]
  rw [if_neg (by omega), if_neg (by omega), if_neg (by omega), show 24 + i - 8 - 8 - 8 = i by omega,
    BitVec.getLsbD_eq_getElem]

/-- `le32` of a word read from four bytes gives the four bytes. -/
theorem le32_wordOfBytes (b0 b1 b2 b3 : Byte) : le32 (wordOfBytes b0 b1 b2 b3) = [b0, b1, b2, b3] := by
  simp only [le32, wordOfBytes_byte0, wordOfBytes_byte1, wordOfBytes_byte2, wordOfBytes_byte3]

/-- Bit `i` of `reflect_8(b)` is bit `7 - i` of `b` (R11). -/
theorem reflect8_bit (b : Byte) (i : Nat) (h : i < 8) : (reflect8 b).getLsbD i = b.getLsbD (7 - i) := by
  rw [reflect8, BitVec.getLsbD_reverse, BitVec.getMsbD]
  simp only [h, decide_true, Bool.true_and]

/-- Bit `i` of `reflect_32(x)` is bit `31 - i` of `x` (R11). -/
theorem reflect32_bit (x : Word) (i : Nat) (h : i < 32) : (reflect32 x).getLsbD i = x.getLsbD (31 - i) := by
  rw [reflect32, BitVec.getLsbD_reverse, BitVec.getMsbD]
  simp only [h, decide_true, Bool.true_and]

/-! ### Lists of bytes and the header's layout (30_encoding.md R113, R115) -/

theorem slice_length (s : List Byte) (a b : Nat) (hb : b ≤ s.length) : (slice s a b).length = b - a := by
  simp [slice]; omega

theorem getElem?_slice (s : List Byte) (a b i : Nat) (h : i < b - a) : (slice s a b)[i]? = s[a + i]? := by
  simp [slice, h]

theorem nameField_length (name : List Byte) (h : name.length ≤ 64) : (nameField name).length = 64 := by
  simp [nameField]; omega

theorem headerBody_length (h : Header) (hn : h.fileName.length ≤ 64) : (headerBody h).length = 84 := by
  simp [headerBody, nameField_length _ hn]

theorem encodeHeader_length (h : Header) (cfg : CrcCfg) (hn : h.fileName.length ≤ 64) :
    (encodeHeader h cfg).length = hdrSize := by
  simp [encodeHeader, headerBody_length h hn, hdrSize]

theorem untilNul_length_le (s : List Byte) : (untilNul s).length ≤ s.length :=
  (List.takeWhile_prefix _).length_le

@[simp] theorem nameBytes_length (name : Vector Word 16) : (nameBytes name).length = 64 := by
  simp [nameBytes, List.length_flatMap]

end Machine

end Sys2Proof
end

