-- ==== Sys2Proof/Laws/Crc.lean ====
section
/-! SUPPORT. The laws of the CRC function (40_crc32.md R141 to R143, R149). -/

namespace Sys2Proof.Machine

@[simp] theorem withWord_eq (x : Word) (k : Word → Word) : withWord x k = k x := by
  unfold withWord
  split
  · rename_i h
    congr 1
    exact (BitVec.eq_of_toNat_eq (by simpa using h)).symm
  · rename_i n h
    congr 1
    apply BitVec.eq_of_toNat_eq
    have := x.isLt
    simp only [BitVec.toNat_ofNat]
    omega

@[simp] theorem crcFeed_nil (cfg : CrcCfg) (reg : Word) : crcFeed cfg reg [] = reg := rfl

@[simp] theorem crcFeed_cons (cfg : CrcCfg) (reg : Word) (b : Byte) (s : List Byte) :
    crcFeed cfg reg (b :: s) = crcFeed cfg (crcStep cfg reg b) s := by
  rw [crcFeed, withWord_eq]

/-- The register after `s` is the fold of `crc_step` over `s` (R143). -/
theorem crcFeed_eq_foldl (cfg : CrcCfg) :
    ∀ (s : List Byte) (reg : Word), crcFeed cfg reg s = s.foldl (crcStep cfg) reg
  | [], _ => rfl
  | b :: s, reg => by rw [crcFeed_cons, crcFeed_eq_foldl cfg s, List.foldl_cons]

theorem crcFeed_append (cfg : CrcCfg) (s t : List Byte) (reg : Word) :
    crcFeed cfg reg (s ++ t) = crcFeed cfg (crcFeed cfg reg s) t := by
  simp [crcFeed_eq_foldl]

/-- The eight bits of a byte, one `crcBit` each (R141). -/
theorem crcStep_eq (cfg : CrcCfg) (reg : Word) (b : Byte) :
    crcStep cfg reg b =
      let c := crcInput cfg b
      let f := fun r j => crcBit cfg.poly r (c.getLsbD j)
      f (f (f (f (f (f (f (f reg 7) 6) 5) 4) 3) 2) 1) 0 := rfl

theorem crcBit_eq (poly reg : Word) (inputBit : Bool) :
    crcBit poly reg inputBit = reg <<< 1 ^^^ if reg.getLsbD 31 ≠ inputBit then poly else 0#32 := by
  unfold crcBit
  cases reg.getLsbD 31 <;> cases inputBit <;> simp

end Sys2Proof.Machine
end

