-- ==== Sys2Proof/Laws/Memory.lean ====
section
/-! SUPPORT. The laws of the byte buffers: a read after a write, the canonical form, and the range operations. -/

namespace Sys2Proof.Machine

@[simp] theorem Memory.read_nil (a : Nat) : Memory.read [] a = unlistedByte := rfl

theorem Memory.read_cons (k : Nat) (v : Byte) (m : Memory) (a : Nat) :
    Memory.read ((k, v) :: m) a = if k = a then v else Memory.read m a := rfl

/-! ### The canonical form -/

theorem Memory.wfFrom_cons (lo k : Nat) (v : Byte) (m : Memory) :
    Memory.wfFrom lo ((k, v) :: m) = true ↔ lo ≤ k ∧ v ≠ unlistedByte ∧ Memory.wfFrom (k + 1) m = true := by
  simp [Memory.wfFrom, and_assoc]

theorem Memory.wfFrom_mono {lo lo' : Nat} (h : lo' ≤ lo) :
    ∀ {m : Memory}, Memory.wfFrom lo m = true → Memory.wfFrom lo' m = true
  | [], _ => rfl
  | (k, v) :: m, hm => by
    rw [Memory.wfFrom_cons] at hm ⊢
    exact ⟨h.trans hm.1, hm.2⟩

/-- Below its first address a canonical buffer reads as an unlisted byte. -/
theorem Memory.read_below {lo : Nat} :
    ∀ {m : Memory}, Memory.wfFrom lo m = true → ∀ {a : Nat}, a < lo → m.read a = unlistedByte
  | [], _, _, _ => rfl
  | (k, v) :: m, hm, a, ha => by
    rw [Memory.wfFrom_cons] at hm
    rw [Memory.read_cons, if_neg (by omega)]
    exact Memory.read_below hm.2.2 (by omega)

theorem Memory.put_wf {lo a : Nat} {m : Memory} {b : Byte} (hlo : lo ≤ a) (hm : Memory.wfFrom (a + 1) m = true) :
    Memory.wfFrom lo (Memory.put m a b) = true := by
  unfold Memory.put
  split
  · exact Memory.wfFrom_mono (by omega) hm
  · exact (Memory.wfFrom_cons ..).2 ⟨hlo, ‹_›, hm⟩

theorem Memory.write_wfFrom {lo a : Nat} {b : Byte} (hlo : lo ≤ a) :
    ∀ {m : Memory}, Memory.wfFrom lo m = true → Memory.wfFrom lo (m.write a b) = true
  | [], _ => Memory.put_wf hlo rfl
  | (k, v) :: m, hm => by
    have h := (Memory.wfFrom_cons ..).1 hm
    unfold Memory.write
    split
    · exact Memory.put_wf hlo ((Memory.wfFrom_cons ..).2 ⟨by omega, h.2⟩)
    · split
      · exact Memory.put_wf hlo (by subst a; exact h.2.2)
      · exact (Memory.wfFrom_cons ..).2 ⟨h.1, h.2.1, Memory.write_wfFrom (by omega) h.2.2⟩

/-- A write keeps the canonical form. -/
theorem Memory.write_wf {m : Memory} (a : Nat) (b : Byte) (hm : m.wf = true) : (m.write a b).wf = true :=
  Memory.write_wfFrom (Nat.zero_le a) hm

theorem Memory.writeRange_wf : ∀ {m : Memory} (a : Nat) (s : List Byte), m.wf = true → (m.writeRange a s).wf = true
  | _, _, [], hm => hm
  | _, a, _ :: s, hm => Memory.writeRange_wf (a + 1) s (Memory.write_wf a _ hm)

/-! ### Read after write -/

theorem Memory.read_put_same {m : Memory} {a : Nat} {b : Byte} (hm : m.read a = unlistedByte) :
    (Memory.put m a b).read a = b := by
  unfold Memory.put
  split
  · rename_i h; rw [hm, h]
  · simp [Memory.read_cons]

theorem Memory.read_put_other {m : Memory} {a c : Nat} {b : Byte} (h : c ≠ a) :
    (Memory.put m a b).read c = m.read c := by
  unfold Memory.put
  split
  · rfl
  · rw [Memory.read_cons, if_neg (Ne.symm h)]

theorem Memory.read_write_same_from {lo a : Nat} {b : Byte} :
    ∀ {m : Memory}, Memory.wfFrom lo m = true → (m.write a b).read a = b
  | [], _ => Memory.read_put_same rfl
  | (k, v) :: m, hm => by
    have h := (Memory.wfFrom_cons ..).1 hm
    unfold Memory.write
    split
    · refine Memory.read_put_same ?_
      exact Memory.read_below (lo := k) ((Memory.wfFrom_cons ..).2 ⟨Nat.le_refl k, h.2⟩) ‹_›
    · split
      · exact Memory.read_put_same (Memory.read_below h.2.2 (by omega))
      · rw [Memory.read_cons, if_neg (by omega)]
        exact Memory.read_write_same_from h.2.2

/-- Reading the written address gives the written byte. -/
theorem Memory.read_write_same {m : Memory} (a : Nat) (b : Byte) (hm : m.wf = true) : (m.write a b).read a = b :=
  Memory.read_write_same_from hm

/-- A write leaves every other address alone. -/
theorem Memory.read_write_other {a c : Nat} {b : Byte} (h : c ≠ a) :
    ∀ (m : Memory), (m.write a b).read c = m.read c
  | [] => Memory.read_put_other h
  | (k, v) :: m => by
    unfold Memory.write
    split
    · exact Memory.read_put_other h
    · split
      · subst a; rw [Memory.read_put_other h, Memory.read_cons, if_neg (Ne.symm h)]
      · rw [Memory.read_cons, Memory.read_cons, Memory.read_write_other h m]

theorem Memory.read_write {m : Memory} (hm : m.wf = true) (a c : Nat) (b : Byte) :
    (m.write a b).read c = if c = a then b else m.read c := by
  split
  · subst c; exact Memory.read_write_same a b hm
  · exact Memory.read_write_other ‹_› m

/-! ### Ranges -/

@[simp] theorem Memory.readRange_length (m : Memory) : ∀ (n a : Nat), (m.readRange a n).length = n
  | 0, _ => rfl
  | n + 1, a => by simp [Memory.readRange, Memory.readRange_length m n (a + 1)]

theorem Memory.getElem?_readRange (m : Memory) :
    ∀ (n a i : Nat), i < n → (m.readRange a n)[i]? = some (m.read (a + i))
  | 0, _, _, h => absurd h (by omega)
  | n + 1, a, 0, _ => by simp [Memory.readRange]
  | n + 1, a, i + 1, h => by
    rw [Memory.readRange, List.getElem?_cons_succ, Memory.getElem?_readRange m n (a + 1) i (by omega)]
    congr 2; omega

/-- Bytes outside a written range are left alone. -/
theorem Memory.read_writeRange_other {c : Nat} :
    ∀ (s : List Byte) (m : Memory) (a : Nat), (c < a ∨ a + s.length ≤ c) → (m.writeRange a s).read c = m.read c
  | [], _, _, _ => rfl
  | b :: s, m, a, h => by
    simp only [List.length_cons] at h
    rw [Memory.writeRange, Memory.read_writeRange_other s (m.write a b) (a + 1) (by omega),
      Memory.read_write_other (by omega)]

/-- Byte `i` of a written range reads as byte `i` of what was written. -/
theorem Memory.read_writeRange_same :
    ∀ (s : List Byte) (m : Memory) (a i : Nat), m.wf = true → i < s.length →
      (m.writeRange a s).read (a + i) = s.getD i 0#8
  | [], _, _, _, _, h => absurd h (by simp)
  | b :: s, m, a, 0, hm, _ => by
    rw [Memory.writeRange, Memory.read_writeRange_other s _ _ (by omega)]
    exact Memory.read_write_same a b hm
  | b :: s, m, a, i + 1, hm, h => by
    simp only [List.length_cons] at h
    rw [Memory.writeRange, show a + (i + 1) = a + 1 + i by omega,
      Memory.read_writeRange_same s (m.write a b) (a + 1) i (Memory.write_wf a b hm) (by omega)]
    rfl

/-- What was written as a range reads back whole. -/
theorem Memory.readRange_writeRange (s : List Byte) (m : Memory) (a : Nat) (hm : m.wf = true) :
    (m.writeRange a s).readRange a s.length = s := by
  apply List.ext_getElem?
  intro i
  by_cases h : i < s.length
  · rw [Memory.getElem?_readRange _ _ _ _ h, Memory.read_writeRange_same s m a i hm h]
    simp [List.getD_eq_getElem?_getD, List.getElem?_eq_getElem h]
  · rw [List.getElem?_eq_none (by simp; omega), List.getElem?_eq_none (by omega)]

theorem Memory.readRange_congr {m m' : Memory} :
    ∀ (n a : Nat), (∀ i, i < n → m.read (a + i) = m'.read (a + i)) → m.readRange a n = m'.readRange a n
  | 0, _, _ => rfl
  | n + 1, a, h => by
    have tail : m.readRange (a + 1) n = m'.readRange (a + 1) n :=
      Memory.readRange_congr n (a + 1) fun i hi => by
        rw [show a + 1 + i = a + (i + 1) by omega]; exact h (i + 1) (by omega)
    rw [Memory.readRange, Memory.readRange, show m.read a = m'.read a from h 0 (by omega), tail]

/-! ### Capacity -/

theorem Memory.write_keys {cap a : Nat} {b : Byte} (ha : a < cap) :
    ∀ {m : Memory}, (∀ c ∈ m, c.1 < cap) → ∀ c ∈ m.write a b, c.1 < cap := by
  have put : ∀ {m : Memory}, (∀ c ∈ m, c.1 < cap) → ∀ c ∈ Memory.put m a b, c.1 < cap := by
    intro m h c hc
    unfold Memory.put at hc
    split at hc
    · exact h c hc
    · rcases List.mem_cons.1 hc with rfl | hc
      · exact ha
      · exact h c hc
  intro m
  induction m with
  | nil => exact fun h => put h
  | cons kv m ih =>
    obtain ⟨k, v⟩ := kv
    intro h
    unfold Memory.write
    split
    · exact put h
    · split
      · exact put fun c hc => h c (List.mem_cons_of_mem _ hc)
      · intro c hc
        rcases List.mem_cons.1 hc with rfl | hc
        · exact h _ (List.mem_cons_self ..)
        · exact ih (fun c hc => h c (List.mem_cons_of_mem _ hc)) c hc

/-- A write inside the capacity keeps every byte inside it. -/
theorem Memory.writeRange_keys {cap : Nat} :
    ∀ {m : Memory} (a : Nat) (s : List Byte), a + s.length ≤ cap → (∀ c ∈ m, c.1 < cap) →
      ∀ c ∈ m.writeRange a s, c.1 < cap
  | _, _, [], _, h => h
  | _, a, _ :: s, ha, h =>
    Memory.writeRange_keys (a + 1) s (by simp at ha; omega) (Memory.write_keys (by simp at ha; omega) h)

/-- Two canonical buffers that read alike are equal. -/
theorem Memory.ext_from {lo : Nat} :
    ∀ {m m' : Memory}, Memory.wfFrom lo m = true → Memory.wfFrom lo m' = true → (∀ a, m.read a = m'.read a) → m = m'
  | [], [], _, _, _ => rfl
  | [], (k, v) :: m', _, h', h => by
    have := h k; rw [Memory.read_cons, if_pos rfl] at this
    exact absurd this.symm ((Memory.wfFrom_cons ..).1 h').2.1
  | (k, v) :: m, [], h', _, h => by
    have := h k; rw [Memory.read_cons, if_pos rfl] at this
    exact absurd this ((Memory.wfFrom_cons ..).1 h').2.1
  | (k, v) :: m, (k', v') :: m', hm, hm', h => by
    have w := (Memory.wfFrom_cons ..).1 hm
    have w' := (Memory.wfFrom_cons ..).1 hm'
    have hk : k = k' := by
      rcases Nat.lt_trichotomy k k' with hlt | heq | hgt
      · have := h k
        rw [Memory.read_cons, if_pos rfl, Memory.read_cons, if_neg (by omega),
          Memory.read_below w'.2.2 (by omega)] at this
        exact absurd this w.2.1
      · exact heq
      · have := h k'
        rw [Memory.read_cons, if_neg (by omega), Memory.read_below w.2.2 (by omega), Memory.read_cons,
          if_pos rfl] at this
        exact absurd this.symm w'.2.1
    subst k'
    have hv : v = v' := by have := h k; rwa [Memory.read_cons, if_pos rfl, Memory.read_cons, if_pos rfl] at this
    subst v'
    congr 1
    refine Memory.ext_from w.2.2 w'.2.2 fun a => ?_
    by_cases ha : a < k + 1
    · rw [Memory.read_below w.2.2 ha, Memory.read_below w'.2.2 ha]
    · have := h a; rwa [Memory.read_cons, if_neg (by omega), Memory.read_cons, if_neg (by omega)] at this

theorem Memory.ext {m m' : Memory} (hm : m.wf = true) (hm' : m'.wf = true) (h : ∀ a, m.read a = m'.read a) : m = m' :=
  Memory.ext_from hm hm' h

/-! ### Ranges end to end -/

/-- Writing two runs of bytes, the second after the first, is writing them as one. -/
theorem Memory.writeRange_append :
    ∀ (s : List Byte) (m : Memory) (a : Nat) (t : List Byte),
      m.writeRange a (s ++ t) = (m.writeRange a s).writeRange (a + s.length) t
  | [], _, _, _ => rfl
  | b :: s, m, a, t => by
    simp only [List.cons_append, Memory.writeRange, List.length_cons]
    rw [Memory.writeRange_append s, show a + 1 + s.length = a + (s.length + 1) by omega]

/-- Reading `n + k` bytes is reading `n`, then the `k` after them. -/
theorem Memory.readRange_add (m : Memory) :
    ∀ (n a k : Nat), m.readRange a (n + k) = m.readRange a n ++ m.readRange (a + n) k
  | 0, _, _ => by simp [Memory.readRange]
  | n + 1, a, k => by
    rw [show n + 1 + k = (n + k) + 1 by omega]
    simp only [Memory.readRange, List.cons_append]
    rw [Memory.readRange_add m n (a + 1), show a + 1 + n = a + (n + 1) by omega]

end Sys2Proof.Machine
end

