-- ==== Sys2Proof/Laws/State.lean ====
section
/-! SUPPORT. What each named update of the state leaves in each field: one lemma per field and update, true by
unfolding. -/

namespace Sys2Proof.Machine

variable (s : State)

/-! ### goto -/

@[simp] theorem State.goto_params (p : Pos) : (s.goto p).params = s.params := rfl
@[simp] theorem State.goto_ctrl (p : Pos) : (s.goto p).ctrl = s.ctrl := rfl
@[simp] theorem State.goto_busy (p : Pos) : (s.goto p).busy = s.busy := rfl
@[simp] theorem State.goto_done (p : Pos) : (s.goto p).done = s.done := rfl
@[simp] theorem State.goto_werr (p : Pos) : (s.goto p).werr = s.werr := rfl
@[simp] theorem State.goto_exhausted (p : Pos) : (s.goto p).exhausted = s.exhausted := rfl
@[simp] theorem State.goto_outcome (p : Pos) : (s.goto p).outcome = s.outcome := rfl
@[simp] theorem State.goto_dir (p : Pos) : (s.goto p).dir = s.dir := rfl
@[simp] theorem State.goto_retrycount (p : Pos) : (s.goto p).retrycount = s.retrycount := rfl
@[simp] theorem State.goto_chunkSize (p : Pos) : (s.goto p).chunkSize = s.chunkSize := rfl
@[simp] theorem State.goto_fileSize (p : Pos) : (s.goto p).fileSize = s.fileSize := rfl
@[simp] theorem State.goto_crcPoly (p : Pos) : (s.goto p).crcPoly = s.crcPoly := rfl
@[simp] theorem State.goto_crcInit (p : Pos) : (s.goto p).crcInit = s.crcInit := rfl
@[simp] theorem State.goto_crcXorout (p : Pos) : (s.goto p).crcXorout = s.crcXorout := rfl
@[simp] theorem State.goto_crcAcc (p : Pos) : (s.goto p).crcAcc = s.crcAcc := rfl
@[simp] theorem State.goto_res (p : Pos) : (s.goto p).res = s.res := rfl
@[simp] theorem State.goto_name (p : Pos) : (s.goto p).name = s.name := rfl
@[simp] theorem State.goto_sess (p : Pos) : (s.goto p).sess = s.sess := rfl
@[simp] theorem State.goto_buf (p : Pos) : (s.goto p).buf = s.buf := rfl
@[simp] theorem State.goto_hbuf (p : Pos) : (s.goto p).hbuf = s.hbuf := rfl
@[simp] theorem State.goto_pos (p : Pos) : (s.goto p).pos = p := rfl
@[simp] theorem State.goto_pending (p : Pos) : (s.goto p).pending = s.pending := rfl
@[simp] theorem State.goto_answer (p : Pos) : (s.goto p).answer = s.answer := rfl
@[simp] theorem State.goto_sinkOpened (p : Pos) : (s.goto p).sinkOpened = s.sinkOpened := rfl
@[simp] theorem State.goto_rxq (p : Pos) : (s.goto p).rxq = s.rxq := rfl
@[simp] theorem State.goto_txq (p : Pos) : (s.goto p).txq = s.txq := rfl
@[simp] theorem State.goto_sinkFile (p : Pos) : (s.goto p).sinkFile = s.sinkFile := rfl
@[simp] theorem State.goto_draws (p : Pos) : (s.goto p).draws = s.draws := rfl
@[simp] theorem State.goto_agenda (p : Pos) : (s.goto p).agenda = s.agenda := rfl
@[simp] theorem State.goto_trace (p : Pos) : (s.goto p).trace = s.trace := rfl

/-! ### linkSend -/

@[simp] theorem State.linkSend_params (b : Byte) : (s.linkSend b).params = s.params := rfl
@[simp] theorem State.linkSend_ctrl (b : Byte) : (s.linkSend b).ctrl = s.ctrl := rfl
@[simp] theorem State.linkSend_busy (b : Byte) : (s.linkSend b).busy = s.busy := rfl
@[simp] theorem State.linkSend_done (b : Byte) : (s.linkSend b).done = s.done := rfl
@[simp] theorem State.linkSend_werr (b : Byte) : (s.linkSend b).werr = s.werr := rfl
@[simp] theorem State.linkSend_exhausted (b : Byte) : (s.linkSend b).exhausted = s.exhausted := rfl
@[simp] theorem State.linkSend_outcome (b : Byte) : (s.linkSend b).outcome = s.outcome := rfl
@[simp] theorem State.linkSend_dir (b : Byte) : (s.linkSend b).dir = s.dir := rfl
@[simp] theorem State.linkSend_retrycount (b : Byte) : (s.linkSend b).retrycount = s.retrycount := rfl
@[simp] theorem State.linkSend_chunkSize (b : Byte) : (s.linkSend b).chunkSize = s.chunkSize := rfl
@[simp] theorem State.linkSend_fileSize (b : Byte) : (s.linkSend b).fileSize = s.fileSize := rfl
@[simp] theorem State.linkSend_crcPoly (b : Byte) : (s.linkSend b).crcPoly = s.crcPoly := rfl
@[simp] theorem State.linkSend_crcInit (b : Byte) : (s.linkSend b).crcInit = s.crcInit := rfl
@[simp] theorem State.linkSend_crcXorout (b : Byte) : (s.linkSend b).crcXorout = s.crcXorout := rfl
@[simp] theorem State.linkSend_crcAcc (b : Byte) : (s.linkSend b).crcAcc = s.crcAcc := rfl
@[simp] theorem State.linkSend_res (b : Byte) : (s.linkSend b).res = s.res := rfl
@[simp] theorem State.linkSend_name (b : Byte) : (s.linkSend b).name = s.name := rfl
@[simp] theorem State.linkSend_sess (b : Byte) : (s.linkSend b).sess = s.sess := rfl
@[simp] theorem State.linkSend_buf (b : Byte) : (s.linkSend b).buf = s.buf := rfl
@[simp] theorem State.linkSend_hbuf (b : Byte) : (s.linkSend b).hbuf = s.hbuf := rfl
@[simp] theorem State.linkSend_pos (b : Byte) : (s.linkSend b).pos = s.pos := rfl
@[simp] theorem State.linkSend_pending (b : Byte) : (s.linkSend b).pending = s.pending := rfl
@[simp] theorem State.linkSend_answer (b : Byte) : (s.linkSend b).answer = s.answer := rfl
@[simp] theorem State.linkSend_sinkOpened (b : Byte) : (s.linkSend b).sinkOpened = s.sinkOpened := rfl
@[simp] theorem State.linkSend_rxq (b : Byte) : (s.linkSend b).rxq = s.rxq := rfl
@[simp] theorem State.linkSend_txq (b : Byte) : (s.linkSend b).txq = s.txq ++ [b] := rfl
@[simp] theorem State.linkSend_sinkFile (b : Byte) : (s.linkSend b).sinkFile = s.sinkFile := rfl
@[simp] theorem State.linkSend_draws (b : Byte) : (s.linkSend b).draws = s.draws := rfl
@[simp] theorem State.linkSend_agenda (b : Byte) : (s.linkSend b).agenda = s.agenda := rfl
@[simp] theorem State.linkSend_trace (b : Byte) : (s.linkSend b).trace = s.trace := rfl

/-! ### linkDiscard -/

@[simp] theorem State.linkDiscard_params : (s.linkDiscard).params = s.params := rfl
@[simp] theorem State.linkDiscard_ctrl : (s.linkDiscard).ctrl = s.ctrl := rfl
@[simp] theorem State.linkDiscard_busy : (s.linkDiscard).busy = s.busy := rfl
@[simp] theorem State.linkDiscard_done : (s.linkDiscard).done = s.done := rfl
@[simp] theorem State.linkDiscard_werr : (s.linkDiscard).werr = s.werr := rfl
@[simp] theorem State.linkDiscard_exhausted : (s.linkDiscard).exhausted = s.exhausted := rfl
@[simp] theorem State.linkDiscard_outcome : (s.linkDiscard).outcome = s.outcome := rfl
@[simp] theorem State.linkDiscard_dir : (s.linkDiscard).dir = s.dir := rfl
@[simp] theorem State.linkDiscard_retrycount : (s.linkDiscard).retrycount = s.retrycount := rfl
@[simp] theorem State.linkDiscard_chunkSize : (s.linkDiscard).chunkSize = s.chunkSize := rfl
@[simp] theorem State.linkDiscard_fileSize : (s.linkDiscard).fileSize = s.fileSize := rfl
@[simp] theorem State.linkDiscard_crcPoly : (s.linkDiscard).crcPoly = s.crcPoly := rfl
@[simp] theorem State.linkDiscard_crcInit : (s.linkDiscard).crcInit = s.crcInit := rfl
@[simp] theorem State.linkDiscard_crcXorout : (s.linkDiscard).crcXorout = s.crcXorout := rfl
@[simp] theorem State.linkDiscard_crcAcc : (s.linkDiscard).crcAcc = s.crcAcc := rfl
@[simp] theorem State.linkDiscard_res : (s.linkDiscard).res = s.res := rfl
@[simp] theorem State.linkDiscard_name : (s.linkDiscard).name = s.name := rfl
@[simp] theorem State.linkDiscard_sess : (s.linkDiscard).sess = s.sess := rfl
@[simp] theorem State.linkDiscard_buf : (s.linkDiscard).buf = s.buf := rfl
@[simp] theorem State.linkDiscard_hbuf : (s.linkDiscard).hbuf = s.hbuf := rfl
@[simp] theorem State.linkDiscard_pos : (s.linkDiscard).pos = s.pos := rfl
@[simp] theorem State.linkDiscard_pending : (s.linkDiscard).pending = s.pending := rfl
@[simp] theorem State.linkDiscard_answer : (s.linkDiscard).answer = s.answer := rfl
@[simp] theorem State.linkDiscard_sinkOpened : (s.linkDiscard).sinkOpened = s.sinkOpened := rfl
@[simp] theorem State.linkDiscard_rxq : (s.linkDiscard).rxq = discardFrom s.draws s.rxq := rfl
@[simp] theorem State.linkDiscard_txq : (s.linkDiscard).txq = s.txq := rfl
@[simp] theorem State.linkDiscard_sinkFile : (s.linkDiscard).sinkFile = s.sinkFile := rfl
@[simp] theorem State.linkDiscard_draws : (s.linkDiscard).draws = s.draws + 1 := rfl
@[simp] theorem State.linkDiscard_agenda : (s.linkDiscard).agenda = s.agenda := rfl
@[simp] theorem State.linkDiscard_trace : (s.linkDiscard).trace = s.trace := rfl

/-! ### hostReturn -/

@[simp] theorem State.hostReturn_params (v : Word) : (s.hostReturn v).params = s.params := rfl
@[simp] theorem State.hostReturn_ctrl (v : Word) : (s.hostReturn v).ctrl = s.ctrl := rfl
@[simp] theorem State.hostReturn_busy (v : Word) : (s.hostReturn v).busy = s.busy := rfl
@[simp] theorem State.hostReturn_done (v : Word) : (s.hostReturn v).done = s.done := rfl
@[simp] theorem State.hostReturn_werr (v : Word) : (s.hostReturn v).werr = s.werr := rfl
@[simp] theorem State.hostReturn_exhausted (v : Word) : (s.hostReturn v).exhausted = s.exhausted := rfl
@[simp] theorem State.hostReturn_outcome (v : Word) : (s.hostReturn v).outcome = s.outcome := rfl
@[simp] theorem State.hostReturn_dir (v : Word) : (s.hostReturn v).dir = s.dir := rfl
@[simp] theorem State.hostReturn_retrycount (v : Word) : (s.hostReturn v).retrycount = s.retrycount := rfl
@[simp] theorem State.hostReturn_chunkSize (v : Word) : (s.hostReturn v).chunkSize = s.chunkSize := rfl
@[simp] theorem State.hostReturn_fileSize (v : Word) : (s.hostReturn v).fileSize = s.fileSize := rfl
@[simp] theorem State.hostReturn_crcPoly (v : Word) : (s.hostReturn v).crcPoly = s.crcPoly := rfl
@[simp] theorem State.hostReturn_crcInit (v : Word) : (s.hostReturn v).crcInit = s.crcInit := rfl
@[simp] theorem State.hostReturn_crcXorout (v : Word) : (s.hostReturn v).crcXorout = s.crcXorout := rfl
@[simp] theorem State.hostReturn_crcAcc (v : Word) : (s.hostReturn v).crcAcc = s.crcAcc := rfl
@[simp] theorem State.hostReturn_res (v : Word) : (s.hostReturn v).res = s.res := rfl
@[simp] theorem State.hostReturn_name (v : Word) : (s.hostReturn v).name = s.name := rfl
@[simp] theorem State.hostReturn_sess (v : Word) : (s.hostReturn v).sess = s.sess := rfl
@[simp] theorem State.hostReturn_buf (v : Word) : (s.hostReturn v).buf = s.buf := rfl
@[simp] theorem State.hostReturn_hbuf (v : Word) : (s.hostReturn v).hbuf = s.hbuf := rfl
@[simp] theorem State.hostReturn_pos (v : Word) : (s.hostReturn v).pos = s.pos := rfl
@[simp] theorem State.hostReturn_pending (v : Word) : (s.hostReturn v).pending = s.pending := rfl
@[simp] theorem State.hostReturn_answer (v : Word) : (s.hostReturn v).answer = s.answer := rfl
@[simp] theorem State.hostReturn_sinkOpened (v : Word) : (s.hostReturn v).sinkOpened = s.sinkOpened := rfl
@[simp] theorem State.hostReturn_rxq (v : Word) : (s.hostReturn v).rxq = s.rxq := rfl
@[simp] theorem State.hostReturn_txq (v : Word) : (s.hostReturn v).txq = s.txq := rfl
@[simp] theorem State.hostReturn_sinkFile (v : Word) : (s.hostReturn v).sinkFile = s.sinkFile := rfl
@[simp] theorem State.hostReturn_draws (v : Word) : (s.hostReturn v).draws = s.draws := rfl
@[simp] theorem State.hostReturn_agenda (v : Word) : (s.hostReturn v).agenda = s.agenda := rfl
@[simp] theorem State.hostReturn_trace (v : Word) : (s.hostReturn v).trace = s.trace ++ [v] := rfl

/-! ### setWerr -/

@[simp] theorem State.setWerr_params : (s.setWerr).params = s.params := rfl
@[simp] theorem State.setWerr_ctrl : (s.setWerr).ctrl = s.ctrl := rfl
@[simp] theorem State.setWerr_busy : (s.setWerr).busy = s.busy := rfl
@[simp] theorem State.setWerr_done : (s.setWerr).done = s.done := rfl
@[simp] theorem State.setWerr_werr : (s.setWerr).werr = true := rfl
@[simp] theorem State.setWerr_exhausted : (s.setWerr).exhausted = s.exhausted := rfl
@[simp] theorem State.setWerr_outcome : (s.setWerr).outcome = s.outcome := rfl
@[simp] theorem State.setWerr_dir : (s.setWerr).dir = s.dir := rfl
@[simp] theorem State.setWerr_retrycount : (s.setWerr).retrycount = s.retrycount := rfl
@[simp] theorem State.setWerr_chunkSize : (s.setWerr).chunkSize = s.chunkSize := rfl
@[simp] theorem State.setWerr_fileSize : (s.setWerr).fileSize = s.fileSize := rfl
@[simp] theorem State.setWerr_crcPoly : (s.setWerr).crcPoly = s.crcPoly := rfl
@[simp] theorem State.setWerr_crcInit : (s.setWerr).crcInit = s.crcInit := rfl
@[simp] theorem State.setWerr_crcXorout : (s.setWerr).crcXorout = s.crcXorout := rfl
@[simp] theorem State.setWerr_crcAcc : (s.setWerr).crcAcc = s.crcAcc := rfl
@[simp] theorem State.setWerr_res : (s.setWerr).res = s.res := rfl
@[simp] theorem State.setWerr_name : (s.setWerr).name = s.name := rfl
@[simp] theorem State.setWerr_sess : (s.setWerr).sess = s.sess := rfl
@[simp] theorem State.setWerr_buf : (s.setWerr).buf = s.buf := rfl
@[simp] theorem State.setWerr_hbuf : (s.setWerr).hbuf = s.hbuf := rfl
@[simp] theorem State.setWerr_pos : (s.setWerr).pos = s.pos := rfl
@[simp] theorem State.setWerr_pending : (s.setWerr).pending = s.pending := rfl
@[simp] theorem State.setWerr_answer : (s.setWerr).answer = s.answer := rfl
@[simp] theorem State.setWerr_sinkOpened : (s.setWerr).sinkOpened = s.sinkOpened := rfl
@[simp] theorem State.setWerr_rxq : (s.setWerr).rxq = s.rxq := rfl
@[simp] theorem State.setWerr_txq : (s.setWerr).txq = s.txq := rfl
@[simp] theorem State.setWerr_sinkFile : (s.setWerr).sinkFile = s.sinkFile := rfl
@[simp] theorem State.setWerr_draws : (s.setWerr).draws = s.draws := rfl
@[simp] theorem State.setWerr_agenda : (s.setWerr).agenda = s.agenda := rfl
@[simp] theorem State.setWerr_trace : (s.setWerr).trace = s.trace := rfl

/-! ### discardByte -/

@[simp] theorem State.discardByte_params : (s.discardByte).params = s.params := rfl
@[simp] theorem State.discardByte_ctrl : (s.discardByte).ctrl = s.ctrl := rfl
@[simp] theorem State.discardByte_busy : (s.discardByte).busy = s.busy := rfl
@[simp] theorem State.discardByte_done : (s.discardByte).done = s.done := rfl
@[simp] theorem State.discardByte_werr : (s.discardByte).werr = s.werr := rfl
@[simp] theorem State.discardByte_exhausted : (s.discardByte).exhausted = s.exhausted := rfl
@[simp] theorem State.discardByte_outcome : (s.discardByte).outcome = s.outcome := rfl
@[simp] theorem State.discardByte_dir : (s.discardByte).dir = s.dir := rfl
@[simp] theorem State.discardByte_retrycount : (s.discardByte).retrycount = s.retrycount := rfl
@[simp] theorem State.discardByte_chunkSize : (s.discardByte).chunkSize = s.chunkSize := rfl
@[simp] theorem State.discardByte_fileSize : (s.discardByte).fileSize = s.fileSize := rfl
@[simp] theorem State.discardByte_crcPoly : (s.discardByte).crcPoly = s.crcPoly := rfl
@[simp] theorem State.discardByte_crcInit : (s.discardByte).crcInit = s.crcInit := rfl
@[simp] theorem State.discardByte_crcXorout : (s.discardByte).crcXorout = s.crcXorout := rfl
@[simp] theorem State.discardByte_crcAcc : (s.discardByte).crcAcc = s.crcAcc := rfl
@[simp] theorem State.discardByte_res : (s.discardByte).res = s.res := rfl
@[simp] theorem State.discardByte_name : (s.discardByte).name = s.name := rfl
@[simp] theorem State.discardByte_sess : (s.discardByte).sess = s.sess := rfl
@[simp] theorem State.discardByte_buf : (s.discardByte).buf = s.buf := rfl
@[simp] theorem State.discardByte_hbuf : (s.discardByte).hbuf = s.hbuf := rfl
@[simp] theorem State.discardByte_pos : (s.discardByte).pos = s.pos := rfl
@[simp] theorem State.discardByte_pending : (s.discardByte).pending = s.pending := rfl
@[simp] theorem State.discardByte_answer : (s.discardByte).answer = s.answer := rfl
@[simp] theorem State.discardByte_sinkOpened : (s.discardByte).sinkOpened = s.sinkOpened := rfl
@[simp] theorem State.discardByte_rxq : (s.discardByte).rxq = s.rxq := rfl
@[simp] theorem State.discardByte_txq : (s.discardByte).txq = s.txq := rfl
@[simp] theorem State.discardByte_sinkFile : (s.discardByte).sinkFile = s.sinkFile := rfl
@[simp] theorem State.discardByte_draws : (s.discardByte).draws = s.draws := rfl
@[simp] theorem State.discardByte_agenda : (s.discardByte).agenda = s.agenda := rfl
@[simp] theorem State.discardByte_trace : (s.discardByte).trace = s.trace := rfl

/-! ### endSession -/

@[simp] theorem State.endSession_params (o : SessionOutcome) (d : Detail) : (s.endSession o d).params = s.params := rfl
@[simp] theorem State.endSession_ctrl (o : SessionOutcome) (d : Detail) : (s.endSession o d).ctrl = s.ctrl := rfl
@[simp] theorem State.endSession_busy (o : SessionOutcome) (d : Detail) : (s.endSession o d).busy = false := rfl
@[simp] theorem State.endSession_done (o : SessionOutcome) (d : Detail) : (s.endSession o d).done = true := rfl
@[simp] theorem State.endSession_werr (o : SessionOutcome) (d : Detail) : (s.endSession o d).werr = s.werr := rfl
@[simp] theorem State.endSession_exhausted (o : SessionOutcome) (d : Detail) : (s.endSession o d).exhausted = s.exhausted := rfl
@[simp] theorem State.endSession_outcome (o : SessionOutcome) (d : Detail) : (s.endSession o d).outcome = o := rfl
@[simp] theorem State.endSession_dir (o : SessionOutcome) (d : Detail) : (s.endSession o d).dir = s.dir := rfl
@[simp] theorem State.endSession_retrycount (o : SessionOutcome) (d : Detail) : (s.endSession o d).retrycount = s.retrycount := rfl
@[simp] theorem State.endSession_chunkSize (o : SessionOutcome) (d : Detail) : (s.endSession o d).chunkSize = s.chunkSize := rfl
@[simp] theorem State.endSession_fileSize (o : SessionOutcome) (d : Detail) : (s.endSession o d).fileSize = s.fileSize := rfl
@[simp] theorem State.endSession_crcPoly (o : SessionOutcome) (d : Detail) : (s.endSession o d).crcPoly = s.crcPoly := rfl
@[simp] theorem State.endSession_crcInit (o : SessionOutcome) (d : Detail) : (s.endSession o d).crcInit = s.crcInit := rfl
@[simp] theorem State.endSession_crcXorout (o : SessionOutcome) (d : Detail) : (s.endSession o d).crcXorout = s.crcXorout := rfl
@[simp] theorem State.endSession_crcAcc (o : SessionOutcome) (d : Detail) : (s.endSession o d).crcAcc = s.crcAcc := rfl
@[simp] theorem State.endSession_res (o : SessionOutcome) (d : Detail) : (s.endSession o d).res = { s.res with errinfo := d } := rfl
@[simp] theorem State.endSession_name (o : SessionOutcome) (d : Detail) : (s.endSession o d).name = s.name := rfl
@[simp] theorem State.endSession_sess (o : SessionOutcome) (d : Detail) : (s.endSession o d).sess = s.sess := rfl
@[simp] theorem State.endSession_buf (o : SessionOutcome) (d : Detail) : (s.endSession o d).buf = s.buf := rfl
@[simp] theorem State.endSession_hbuf (o : SessionOutcome) (d : Detail) : (s.endSession o d).hbuf = s.hbuf := rfl
@[simp] theorem State.endSession_pos (o : SessionOutcome) (d : Detail) : (s.endSession o d).pos = (.idle : Pos) := rfl
@[simp] theorem State.endSession_pending (o : SessionOutcome) (d : Detail) : (s.endSession o d).pending = s.pending := rfl
@[simp] theorem State.endSession_answer (o : SessionOutcome) (d : Detail) : (s.endSession o d).answer = s.answer := rfl
@[simp] theorem State.endSession_sinkOpened (o : SessionOutcome) (d : Detail) : (s.endSession o d).sinkOpened = false := rfl
@[simp] theorem State.endSession_rxq (o : SessionOutcome) (d : Detail) : (s.endSession o d).rxq = s.rxq := rfl
@[simp] theorem State.endSession_txq (o : SessionOutcome) (d : Detail) : (s.endSession o d).txq = s.txq := rfl
@[simp] theorem State.endSession_sinkFile (o : SessionOutcome) (d : Detail) : (s.endSession o d).sinkFile = s.sinkFile := rfl
@[simp] theorem State.endSession_draws (o : SessionOutcome) (d : Detail) : (s.endSession o d).draws = s.draws := rfl
@[simp] theorem State.endSession_agenda (o : SessionOutcome) (d : Detail) : (s.endSession o d).agenda = s.agenda := rfl
@[simp] theorem State.endSession_trace (o : SessionOutcome) (d : Detail) : (s.endSession o d).trace = s.trace := rfl

/-! ### acceptStart -/

@[simp] theorem State.acceptStart_params (d : Direction) : (s.acceptStart d).params = s.params := rfl
@[simp] theorem State.acceptStart_ctrl (d : Direction) : (s.acceptStart d).ctrl = s.ctrl := rfl
@[simp] theorem State.acceptStart_busy (d : Direction) : (s.acceptStart d).busy = s.busy := rfl
@[simp] theorem State.acceptStart_done (d : Direction) : (s.acceptStart d).done = false := rfl
@[simp] theorem State.acceptStart_werr (d : Direction) : (s.acceptStart d).werr = s.werr := rfl
@[simp] theorem State.acceptStart_exhausted (d : Direction) : (s.acceptStart d).exhausted = false := rfl
@[simp] theorem State.acceptStart_outcome (d : Direction) : (s.acceptStart d).outcome = (.noOutcome : SessionOutcome) := rfl
@[simp] theorem State.acceptStart_dir (d : Direction) : (s.acceptStart d).dir = d := rfl
@[simp] theorem State.acceptStart_retrycount (d : Direction) : (s.acceptStart d).retrycount = s.retrycount := rfl
@[simp] theorem State.acceptStart_chunkSize (d : Direction) : (s.acceptStart d).chunkSize = s.chunkSize := rfl
@[simp] theorem State.acceptStart_fileSize (d : Direction) : (s.acceptStart d).fileSize = s.fileSize := rfl
@[simp] theorem State.acceptStart_crcPoly (d : Direction) : (s.acceptStart d).crcPoly = s.crcPoly := rfl
@[simp] theorem State.acceptStart_crcInit (d : Direction) : (s.acceptStart d).crcInit = s.crcInit := rfl
@[simp] theorem State.acceptStart_crcXorout (d : Direction) : (s.acceptStart d).crcXorout = s.crcXorout := rfl
@[simp] theorem State.acceptStart_crcAcc (d : Direction) : (s.acceptStart d).crcAcc = s.crcAcc := rfl
@[simp] theorem State.acceptStart_res (d : Direction) : (s.acceptStart d).res = Results.cleared := rfl
@[simp] theorem State.acceptStart_name (d : Direction) : (s.acceptStart d).name = s.name := rfl
@[simp] theorem State.acceptStart_sess (d : Direction) : (s.acceptStart d).sess = s.sess := rfl
@[simp] theorem State.acceptStart_buf (d : Direction) : (s.acceptStart d).buf = s.buf := rfl
@[simp] theorem State.acceptStart_hbuf (d : Direction) : (s.acceptStart d).hbuf = s.hbuf := rfl
@[simp] theorem State.acceptStart_pos (d : Direction) : (s.acceptStart d).pos = s.pos := rfl
@[simp] theorem State.acceptStart_pending (d : Direction) : (s.acceptStart d).pending = s.pending := rfl
@[simp] theorem State.acceptStart_answer (d : Direction) : (s.acceptStart d).answer = s.answer := rfl
@[simp] theorem State.acceptStart_sinkOpened (d : Direction) : (s.acceptStart d).sinkOpened = s.sinkOpened := rfl
@[simp] theorem State.acceptStart_rxq (d : Direction) : (s.acceptStart d).rxq = s.rxq := rfl
@[simp] theorem State.acceptStart_txq (d : Direction) : (s.acceptStart d).txq = s.txq := rfl
@[simp] theorem State.acceptStart_sinkFile (d : Direction) : (s.acceptStart d).sinkFile = s.sinkFile := rfl
@[simp] theorem State.acceptStart_draws (d : Direction) : (s.acceptStart d).draws = s.draws := rfl
@[simp] theorem State.acceptStart_agenda (d : Direction) : (s.acceptStart d).agenda = s.agenda := rfl
@[simp] theorem State.acceptStart_trace (d : Direction) : (s.acceptStart d).trace = s.trace := rfl

/-! ### configError -/

@[simp] theorem State.configError_params (d : Detail) : (s.configError d).params = s.params := rfl
@[simp] theorem State.configError_ctrl (d : Detail) : (s.configError d).ctrl = s.ctrl := rfl
@[simp] theorem State.configError_busy (d : Detail) : (s.configError d).busy = s.busy := rfl
@[simp] theorem State.configError_done (d : Detail) : (s.configError d).done = true := rfl
@[simp] theorem State.configError_werr (d : Detail) : (s.configError d).werr = s.werr := rfl
@[simp] theorem State.configError_exhausted (d : Detail) : (s.configError d).exhausted = s.exhausted := rfl
@[simp] theorem State.configError_outcome (d : Detail) : (s.configError d).outcome = (.configError : SessionOutcome) := rfl
@[simp] theorem State.configError_dir (d : Detail) : (s.configError d).dir = s.dir := rfl
@[simp] theorem State.configError_retrycount (d : Detail) : (s.configError d).retrycount = s.retrycount := rfl
@[simp] theorem State.configError_chunkSize (d : Detail) : (s.configError d).chunkSize = s.chunkSize := rfl
@[simp] theorem State.configError_fileSize (d : Detail) : (s.configError d).fileSize = s.fileSize := rfl
@[simp] theorem State.configError_crcPoly (d : Detail) : (s.configError d).crcPoly = s.crcPoly := rfl
@[simp] theorem State.configError_crcInit (d : Detail) : (s.configError d).crcInit = s.crcInit := rfl
@[simp] theorem State.configError_crcXorout (d : Detail) : (s.configError d).crcXorout = s.crcXorout := rfl
@[simp] theorem State.configError_crcAcc (d : Detail) : (s.configError d).crcAcc = s.crcAcc := rfl
@[simp] theorem State.configError_res (d : Detail) : (s.configError d).res = { s.res with errinfo := d } := rfl
@[simp] theorem State.configError_name (d : Detail) : (s.configError d).name = s.name := rfl
@[simp] theorem State.configError_sess (d : Detail) : (s.configError d).sess = s.sess := rfl
@[simp] theorem State.configError_buf (d : Detail) : (s.configError d).buf = s.buf := rfl
@[simp] theorem State.configError_hbuf (d : Detail) : (s.configError d).hbuf = s.hbuf := rfl
@[simp] theorem State.configError_pos (d : Detail) : (s.configError d).pos = s.pos := rfl
@[simp] theorem State.configError_pending (d : Detail) : (s.configError d).pending = s.pending := rfl
@[simp] theorem State.configError_answer (d : Detail) : (s.configError d).answer = s.answer := rfl
@[simp] theorem State.configError_sinkOpened (d : Detail) : (s.configError d).sinkOpened = s.sinkOpened := rfl
@[simp] theorem State.configError_rxq (d : Detail) : (s.configError d).rxq = s.rxq := rfl
@[simp] theorem State.configError_txq (d : Detail) : (s.configError d).txq = s.txq := rfl
@[simp] theorem State.configError_sinkFile (d : Detail) : (s.configError d).sinkFile = s.sinkFile := rfl
@[simp] theorem State.configError_draws (d : Detail) : (s.configError d).draws = s.draws := rfl
@[simp] theorem State.configError_agenda (d : Detail) : (s.configError d).agenda = s.agenda := rfl
@[simp] theorem State.configError_trace (d : Detail) : (s.configError d).trace = s.trace := rfl

/-! ### deriveCounts -/

@[simp] theorem State.deriveCounts_params (fs cs : Word) : (s.deriveCounts fs cs).params = s.params := rfl
@[simp] theorem State.deriveCounts_ctrl (fs cs : Word) : (s.deriveCounts fs cs).ctrl = s.ctrl := rfl
@[simp] theorem State.deriveCounts_busy (fs cs : Word) : (s.deriveCounts fs cs).busy = s.busy := rfl
@[simp] theorem State.deriveCounts_done (fs cs : Word) : (s.deriveCounts fs cs).done = s.done := rfl
@[simp] theorem State.deriveCounts_werr (fs cs : Word) : (s.deriveCounts fs cs).werr = s.werr := rfl
@[simp] theorem State.deriveCounts_exhausted (fs cs : Word) : (s.deriveCounts fs cs).exhausted = s.exhausted := rfl
@[simp] theorem State.deriveCounts_outcome (fs cs : Word) : (s.deriveCounts fs cs).outcome = s.outcome := rfl
@[simp] theorem State.deriveCounts_dir (fs cs : Word) : (s.deriveCounts fs cs).dir = s.dir := rfl
@[simp] theorem State.deriveCounts_retrycount (fs cs : Word) : (s.deriveCounts fs cs).retrycount = s.retrycount := rfl
@[simp] theorem State.deriveCounts_chunkSize (fs cs : Word) : (s.deriveCounts fs cs).chunkSize = s.chunkSize := rfl
@[simp] theorem State.deriveCounts_fileSize (fs cs : Word) : (s.deriveCounts fs cs).fileSize = s.fileSize := rfl
@[simp] theorem State.deriveCounts_crcPoly (fs cs : Word) : (s.deriveCounts fs cs).crcPoly = s.crcPoly := rfl
@[simp] theorem State.deriveCounts_crcInit (fs cs : Word) : (s.deriveCounts fs cs).crcInit = s.crcInit := rfl
@[simp] theorem State.deriveCounts_crcXorout (fs cs : Word) : (s.deriveCounts fs cs).crcXorout = s.crcXorout := rfl
@[simp] theorem State.deriveCounts_crcAcc (fs cs : Word) : (s.deriveCounts fs cs).crcAcc = s.crcAcc := rfl
@[simp] theorem State.deriveCounts_res (fs cs : Word) : (s.deriveCounts fs cs).res = { s.res with numFull := fs / (cs - 4#32), remSize := fs % (cs - 4#32) } := rfl
@[simp] theorem State.deriveCounts_name (fs cs : Word) : (s.deriveCounts fs cs).name = s.name := rfl
@[simp] theorem State.deriveCounts_sess (fs cs : Word) : (s.deriveCounts fs cs).sess = { s.sess with fs := fs, cs := cs, p := cs - 4#32 } := rfl
@[simp] theorem State.deriveCounts_buf (fs cs : Word) : (s.deriveCounts fs cs).buf = s.buf := rfl
@[simp] theorem State.deriveCounts_hbuf (fs cs : Word) : (s.deriveCounts fs cs).hbuf = s.hbuf := rfl
@[simp] theorem State.deriveCounts_pos (fs cs : Word) : (s.deriveCounts fs cs).pos = s.pos := rfl
@[simp] theorem State.deriveCounts_pending (fs cs : Word) : (s.deriveCounts fs cs).pending = s.pending := rfl
@[simp] theorem State.deriveCounts_answer (fs cs : Word) : (s.deriveCounts fs cs).answer = s.answer := rfl
@[simp] theorem State.deriveCounts_sinkOpened (fs cs : Word) : (s.deriveCounts fs cs).sinkOpened = s.sinkOpened := rfl
@[simp] theorem State.deriveCounts_rxq (fs cs : Word) : (s.deriveCounts fs cs).rxq = s.rxq := rfl
@[simp] theorem State.deriveCounts_txq (fs cs : Word) : (s.deriveCounts fs cs).txq = s.txq := rfl
@[simp] theorem State.deriveCounts_sinkFile (fs cs : Word) : (s.deriveCounts fs cs).sinkFile = s.sinkFile := rfl
@[simp] theorem State.deriveCounts_draws (fs cs : Word) : (s.deriveCounts fs cs).draws = s.draws := rfl
@[simp] theorem State.deriveCounts_agenda (fs cs : Word) : (s.deriveCounts fs cs).agenda = s.agenda := rfl
@[simp] theorem State.deriveCounts_trace (fs cs : Word) : (s.deriveCounts fs cs).trace = s.trace := rfl

/-! ### startChunk -/

@[simp] theorem State.startChunk_params (i : Word) (p : Pos) : (s.startChunk i p).params = s.params := rfl
@[simp] theorem State.startChunk_ctrl (i : Word) (p : Pos) : (s.startChunk i p).ctrl = s.ctrl := rfl
@[simp] theorem State.startChunk_busy (i : Word) (p : Pos) : (s.startChunk i p).busy = s.busy := rfl
@[simp] theorem State.startChunk_done (i : Word) (p : Pos) : (s.startChunk i p).done = s.done := rfl
@[simp] theorem State.startChunk_werr (i : Word) (p : Pos) : (s.startChunk i p).werr = s.werr := rfl
@[simp] theorem State.startChunk_exhausted (i : Word) (p : Pos) : (s.startChunk i p).exhausted = s.exhausted := rfl
@[simp] theorem State.startChunk_outcome (i : Word) (p : Pos) : (s.startChunk i p).outcome = s.outcome := rfl
@[simp] theorem State.startChunk_dir (i : Word) (p : Pos) : (s.startChunk i p).dir = s.dir := rfl
@[simp] theorem State.startChunk_retrycount (i : Word) (p : Pos) : (s.startChunk i p).retrycount = s.retrycount := rfl
@[simp] theorem State.startChunk_chunkSize (i : Word) (p : Pos) : (s.startChunk i p).chunkSize = s.chunkSize := rfl
@[simp] theorem State.startChunk_fileSize (i : Word) (p : Pos) : (s.startChunk i p).fileSize = s.fileSize := rfl
@[simp] theorem State.startChunk_crcPoly (i : Word) (p : Pos) : (s.startChunk i p).crcPoly = s.crcPoly := rfl
@[simp] theorem State.startChunk_crcInit (i : Word) (p : Pos) : (s.startChunk i p).crcInit = s.crcInit := rfl
@[simp] theorem State.startChunk_crcXorout (i : Word) (p : Pos) : (s.startChunk i p).crcXorout = s.crcXorout := rfl
@[simp] theorem State.startChunk_crcAcc (i : Word) (p : Pos) : (s.startChunk i p).crcAcc = s.crcAcc := rfl
@[simp] theorem State.startChunk_res (i : Word) (p : Pos) : (s.startChunk i p).res = { s.res with chunkIdx := i, retryCnt := 0#8 } := rfl
@[simp] theorem State.startChunk_name (i : Word) (p : Pos) : (s.startChunk i p).name = s.name := rfl
@[simp] theorem State.startChunk_sess (i : Word) (p : Pos) : (s.startChunk i p).sess = { s.sess with len := if i < s.res.numFull then s.sess.p else s.res.remSize } := rfl
@[simp] theorem State.startChunk_buf (i : Word) (p : Pos) : (s.startChunk i p).buf = s.buf := rfl
@[simp] theorem State.startChunk_hbuf (i : Word) (p : Pos) : (s.startChunk i p).hbuf = s.hbuf := rfl
@[simp] theorem State.startChunk_pos (i : Word) (p : Pos) : (s.startChunk i p).pos = p := rfl
@[simp] theorem State.startChunk_pending (i : Word) (p : Pos) : (s.startChunk i p).pending = s.pending := rfl
@[simp] theorem State.startChunk_answer (i : Word) (p : Pos) : (s.startChunk i p).answer = s.answer := rfl
@[simp] theorem State.startChunk_sinkOpened (i : Word) (p : Pos) : (s.startChunk i p).sinkOpened = s.sinkOpened := rfl
@[simp] theorem State.startChunk_rxq (i : Word) (p : Pos) : (s.startChunk i p).rxq = s.rxq := rfl
@[simp] theorem State.startChunk_txq (i : Word) (p : Pos) : (s.startChunk i p).txq = s.txq := rfl
@[simp] theorem State.startChunk_sinkFile (i : Word) (p : Pos) : (s.startChunk i p).sinkFile = s.sinkFile := rfl
@[simp] theorem State.startChunk_draws (i : Word) (p : Pos) : (s.startChunk i p).draws = s.draws := rfl
@[simp] theorem State.startChunk_agenda (i : Word) (p : Pos) : (s.startChunk i p).agenda = s.agenda := rfl
@[simp] theorem State.startChunk_trace (i : Word) (p : Pos) : (s.startChunk i p).trace = s.trace := rfl

/-! ### countNok -/

@[simp] theorem State.countNok_params : (s.countNok).params = s.params := rfl
@[simp] theorem State.countNok_ctrl : (s.countNok).ctrl = s.ctrl := rfl
@[simp] theorem State.countNok_busy : (s.countNok).busy = s.busy := rfl
@[simp] theorem State.countNok_done : (s.countNok).done = s.done := rfl
@[simp] theorem State.countNok_werr : (s.countNok).werr = s.werr := rfl
@[simp] theorem State.countNok_exhausted : (s.countNok).exhausted = s.exhausted := rfl
@[simp] theorem State.countNok_outcome : (s.countNok).outcome = s.outcome := rfl
@[simp] theorem State.countNok_dir : (s.countNok).dir = s.dir := rfl
@[simp] theorem State.countNok_retrycount : (s.countNok).retrycount = s.retrycount := rfl
@[simp] theorem State.countNok_chunkSize : (s.countNok).chunkSize = s.chunkSize := rfl
@[simp] theorem State.countNok_fileSize : (s.countNok).fileSize = s.fileSize := rfl
@[simp] theorem State.countNok_crcPoly : (s.countNok).crcPoly = s.crcPoly := rfl
@[simp] theorem State.countNok_crcInit : (s.countNok).crcInit = s.crcInit := rfl
@[simp] theorem State.countNok_crcXorout : (s.countNok).crcXorout = s.crcXorout := rfl
@[simp] theorem State.countNok_crcAcc : (s.countNok).crcAcc = s.crcAcc := rfl
@[simp] theorem State.countNok_res : (s.countNok).res = { s.res with retryCnt := s.res.retryCnt + 1#8, nokTotal := s.res.nokTotal + 1#32 } := rfl
@[simp] theorem State.countNok_name : (s.countNok).name = s.name := rfl
@[simp] theorem State.countNok_sess : (s.countNok).sess = s.sess := rfl
@[simp] theorem State.countNok_buf : (s.countNok).buf = s.buf := rfl
@[simp] theorem State.countNok_hbuf : (s.countNok).hbuf = s.hbuf := rfl
@[simp] theorem State.countNok_pos : (s.countNok).pos = s.pos := rfl
@[simp] theorem State.countNok_pending : (s.countNok).pending = s.pending := rfl
@[simp] theorem State.countNok_answer : (s.countNok).answer = s.answer := rfl
@[simp] theorem State.countNok_sinkOpened : (s.countNok).sinkOpened = s.sinkOpened := rfl
@[simp] theorem State.countNok_rxq : (s.countNok).rxq = s.rxq := rfl
@[simp] theorem State.countNok_txq : (s.countNok).txq = s.txq := rfl
@[simp] theorem State.countNok_sinkFile : (s.countNok).sinkFile = s.sinkFile := rfl
@[simp] theorem State.countNok_draws : (s.countNok).draws = s.draws := rfl
@[simp] theorem State.countNok_agenda : (s.countNok).agenda = s.agenda := rfl
@[simp] theorem State.countNok_trace : (s.countNok).trace = s.trace := rfl

/-! ### issue -/

@[simp] theorem State.issue_params (r : FileRequest) (p : Pos) : (s.issue r p).params = s.params := rfl
@[simp] theorem State.issue_ctrl (r : FileRequest) (p : Pos) : (s.issue r p).ctrl = s.ctrl := rfl
@[simp] theorem State.issue_busy (r : FileRequest) (p : Pos) : (s.issue r p).busy = s.busy := rfl
@[simp] theorem State.issue_done (r : FileRequest) (p : Pos) : (s.issue r p).done = s.done := rfl
@[simp] theorem State.issue_werr (r : FileRequest) (p : Pos) : (s.issue r p).werr = s.werr := rfl
@[simp] theorem State.issue_exhausted (r : FileRequest) (p : Pos) : (s.issue r p).exhausted = s.exhausted := rfl
@[simp] theorem State.issue_outcome (r : FileRequest) (p : Pos) : (s.issue r p).outcome = s.outcome := rfl
@[simp] theorem State.issue_dir (r : FileRequest) (p : Pos) : (s.issue r p).dir = s.dir := rfl
@[simp] theorem State.issue_retrycount (r : FileRequest) (p : Pos) : (s.issue r p).retrycount = s.retrycount := rfl
@[simp] theorem State.issue_chunkSize (r : FileRequest) (p : Pos) : (s.issue r p).chunkSize = s.chunkSize := rfl
@[simp] theorem State.issue_fileSize (r : FileRequest) (p : Pos) : (s.issue r p).fileSize = s.fileSize := rfl
@[simp] theorem State.issue_crcPoly (r : FileRequest) (p : Pos) : (s.issue r p).crcPoly = s.crcPoly := rfl
@[simp] theorem State.issue_crcInit (r : FileRequest) (p : Pos) : (s.issue r p).crcInit = s.crcInit := rfl
@[simp] theorem State.issue_crcXorout (r : FileRequest) (p : Pos) : (s.issue r p).crcXorout = s.crcXorout := rfl
@[simp] theorem State.issue_crcAcc (r : FileRequest) (p : Pos) : (s.issue r p).crcAcc = s.crcAcc := rfl
@[simp] theorem State.issue_res (r : FileRequest) (p : Pos) : (s.issue r p).res = s.res := rfl
@[simp] theorem State.issue_name (r : FileRequest) (p : Pos) : (s.issue r p).name = s.name := rfl
@[simp] theorem State.issue_sess (r : FileRequest) (p : Pos) : (s.issue r p).sess = s.sess := rfl
@[simp] theorem State.issue_buf (r : FileRequest) (p : Pos) : (s.issue r p).buf = s.buf := rfl
@[simp] theorem State.issue_hbuf (r : FileRequest) (p : Pos) : (s.issue r p).hbuf = s.hbuf := rfl
@[simp] theorem State.issue_pos (r : FileRequest) (p : Pos) : (s.issue r p).pos = p := rfl
@[simp] theorem State.issue_pending (r : FileRequest) (p : Pos) : (s.issue r p).pending = some r := rfl
@[simp] theorem State.issue_answer (r : FileRequest) (p : Pos) : (s.issue r p).answer = s.answer := rfl
@[simp] theorem State.issue_sinkOpened (r : FileRequest) (p : Pos) : (s.issue r p).sinkOpened = s.sinkOpened := rfl
@[simp] theorem State.issue_rxq (r : FileRequest) (p : Pos) : (s.issue r p).rxq = s.rxq := rfl
@[simp] theorem State.issue_txq (r : FileRequest) (p : Pos) : (s.issue r p).txq = s.txq := rfl
@[simp] theorem State.issue_sinkFile (r : FileRequest) (p : Pos) : (s.issue r p).sinkFile = s.sinkFile := rfl
@[simp] theorem State.issue_draws (r : FileRequest) (p : Pos) : (s.issue r p).draws = s.draws := rfl
@[simp] theorem State.issue_agenda (r : FileRequest) (p : Pos) : (s.issue r p).agenda = s.agenda := rfl
@[simp] theorem State.issue_trace (r : FileRequest) (p : Pos) : (s.issue r p).trace = s.trace := rfl

/-! ### portDone -/

@[simp] theorem State.portDone_params : (s.portDone).params = s.params := rfl
@[simp] theorem State.portDone_ctrl : (s.portDone).ctrl = s.ctrl := rfl
@[simp] theorem State.portDone_busy : (s.portDone).busy = s.busy := rfl
@[simp] theorem State.portDone_done : (s.portDone).done = s.done := rfl
@[simp] theorem State.portDone_werr : (s.portDone).werr = s.werr := rfl
@[simp] theorem State.portDone_exhausted : (s.portDone).exhausted = s.exhausted := rfl
@[simp] theorem State.portDone_outcome : (s.portDone).outcome = s.outcome := rfl
@[simp] theorem State.portDone_dir : (s.portDone).dir = s.dir := rfl
@[simp] theorem State.portDone_retrycount : (s.portDone).retrycount = s.retrycount := rfl
@[simp] theorem State.portDone_chunkSize : (s.portDone).chunkSize = s.chunkSize := rfl
@[simp] theorem State.portDone_fileSize : (s.portDone).fileSize = s.fileSize := rfl
@[simp] theorem State.portDone_crcPoly : (s.portDone).crcPoly = s.crcPoly := rfl
@[simp] theorem State.portDone_crcInit : (s.portDone).crcInit = s.crcInit := rfl
@[simp] theorem State.portDone_crcXorout : (s.portDone).crcXorout = s.crcXorout := rfl
@[simp] theorem State.portDone_crcAcc : (s.portDone).crcAcc = s.crcAcc := rfl
@[simp] theorem State.portDone_res : (s.portDone).res = s.res := rfl
@[simp] theorem State.portDone_name : (s.portDone).name = s.name := rfl
@[simp] theorem State.portDone_sess : (s.portDone).sess = s.sess := rfl
@[simp] theorem State.portDone_buf : (s.portDone).buf = s.buf := rfl
@[simp] theorem State.portDone_hbuf : (s.portDone).hbuf = s.hbuf := rfl
@[simp] theorem State.portDone_pos : (s.portDone).pos = s.pos := rfl
@[simp] theorem State.portDone_pending : (s.portDone).pending = none := rfl
@[simp] theorem State.portDone_answer : (s.portDone).answer = none := rfl
@[simp] theorem State.portDone_sinkOpened : (s.portDone).sinkOpened = s.sinkOpened := rfl
@[simp] theorem State.portDone_rxq : (s.portDone).rxq = s.rxq := rfl
@[simp] theorem State.portDone_txq : (s.portDone).txq = s.txq := rfl
@[simp] theorem State.portDone_sinkFile : (s.portDone).sinkFile = s.sinkFile := rfl
@[simp] theorem State.portDone_draws : (s.portDone).draws = s.draws := rfl
@[simp] theorem State.portDone_agenda : (s.portDone).agenda = s.agenda := rfl
@[simp] theorem State.portDone_trace : (s.portDone).trace = s.trace := rfl

/-! ### deliver -/

@[simp] theorem State.deliver_params (b : Byte) : (s.deliver b).params = s.params := rfl
@[simp] theorem State.deliver_ctrl (b : Byte) : (s.deliver b).ctrl = s.ctrl := rfl
@[simp] theorem State.deliver_busy (b : Byte) : (s.deliver b).busy = s.busy := rfl
@[simp] theorem State.deliver_done (b : Byte) : (s.deliver b).done = s.done := rfl
@[simp] theorem State.deliver_werr (b : Byte) : (s.deliver b).werr = s.werr := rfl
@[simp] theorem State.deliver_exhausted (b : Byte) : (s.deliver b).exhausted = s.exhausted := rfl
@[simp] theorem State.deliver_outcome (b : Byte) : (s.deliver b).outcome = s.outcome := rfl
@[simp] theorem State.deliver_dir (b : Byte) : (s.deliver b).dir = s.dir := rfl
@[simp] theorem State.deliver_retrycount (b : Byte) : (s.deliver b).retrycount = s.retrycount := rfl
@[simp] theorem State.deliver_chunkSize (b : Byte) : (s.deliver b).chunkSize = s.chunkSize := rfl
@[simp] theorem State.deliver_fileSize (b : Byte) : (s.deliver b).fileSize = s.fileSize := rfl
@[simp] theorem State.deliver_crcPoly (b : Byte) : (s.deliver b).crcPoly = s.crcPoly := rfl
@[simp] theorem State.deliver_crcInit (b : Byte) : (s.deliver b).crcInit = s.crcInit := rfl
@[simp] theorem State.deliver_crcXorout (b : Byte) : (s.deliver b).crcXorout = s.crcXorout := rfl
@[simp] theorem State.deliver_crcAcc (b : Byte) : (s.deliver b).crcAcc = s.crcAcc := rfl
@[simp] theorem State.deliver_res (b : Byte) : (s.deliver b).res = s.res := rfl
@[simp] theorem State.deliver_name (b : Byte) : (s.deliver b).name = s.name := rfl
@[simp] theorem State.deliver_sess (b : Byte) : (s.deliver b).sess = s.sess := rfl
@[simp] theorem State.deliver_buf (b : Byte) : (s.deliver b).buf = s.buf := rfl
@[simp] theorem State.deliver_hbuf (b : Byte) : (s.deliver b).hbuf = s.hbuf := rfl
@[simp] theorem State.deliver_pos (b : Byte) : (s.deliver b).pos = s.pos := rfl
@[simp] theorem State.deliver_pending (b : Byte) : (s.deliver b).pending = s.pending := rfl
@[simp] theorem State.deliver_answer (b : Byte) : (s.deliver b).answer = s.answer := rfl
@[simp] theorem State.deliver_sinkOpened (b : Byte) : (s.deliver b).sinkOpened = s.sinkOpened := rfl
@[simp] theorem State.deliver_rxq (b : Byte) : (s.deliver b).rxq = s.rxq ++ [b] := rfl
@[simp] theorem State.deliver_txq (b : Byte) : (s.deliver b).txq = s.txq := rfl
@[simp] theorem State.deliver_sinkFile (b : Byte) : (s.deliver b).sinkFile = s.sinkFile := rfl
@[simp] theorem State.deliver_draws (b : Byte) : (s.deliver b).draws = s.draws := rfl
@[simp] theorem State.deliver_agenda (b : Byte) : (s.deliver b).agenda = s.agenda := rfl
@[simp] theorem State.deliver_trace (b : Byte) : (s.deliver b).trace = s.trace := rfl

/-! ### resetBlock -/

@[simp] theorem State.resetBlock_params : (s.resetBlock).params = s.params := rfl
@[simp] theorem State.resetBlock_ctrl : (s.resetBlock).ctrl = State.reset.ctrl := rfl
@[simp] theorem State.resetBlock_busy : (s.resetBlock).busy = State.reset.busy := rfl
@[simp] theorem State.resetBlock_done : (s.resetBlock).done = State.reset.done := rfl
@[simp] theorem State.resetBlock_werr : (s.resetBlock).werr = State.reset.werr := rfl
@[simp] theorem State.resetBlock_exhausted : (s.resetBlock).exhausted = State.reset.exhausted := rfl
@[simp] theorem State.resetBlock_outcome : (s.resetBlock).outcome = State.reset.outcome := rfl
@[simp] theorem State.resetBlock_dir : (s.resetBlock).dir = State.reset.dir := rfl
@[simp] theorem State.resetBlock_retrycount : (s.resetBlock).retrycount = s.params.retrycountDefault := rfl
@[simp] theorem State.resetBlock_chunkSize : (s.resetBlock).chunkSize = s.params.chunkSizeDefault := rfl
@[simp] theorem State.resetBlock_fileSize : (s.resetBlock).fileSize = State.reset.fileSize := rfl
@[simp] theorem State.resetBlock_crcPoly : (s.resetBlock).crcPoly = State.reset.crcPoly := rfl
@[simp] theorem State.resetBlock_crcInit : (s.resetBlock).crcInit = State.reset.crcInit := rfl
@[simp] theorem State.resetBlock_crcXorout : (s.resetBlock).crcXorout = State.reset.crcXorout := rfl
@[simp] theorem State.resetBlock_crcAcc : (s.resetBlock).crcAcc = State.reset.crcAcc := rfl
@[simp] theorem State.resetBlock_res : (s.resetBlock).res = State.reset.res := rfl
@[simp] theorem State.resetBlock_name : (s.resetBlock).name = State.reset.name := rfl
@[simp] theorem State.resetBlock_sess : (s.resetBlock).sess = State.reset.sess := rfl
@[simp] theorem State.resetBlock_buf : (s.resetBlock).buf = State.reset.buf := rfl
@[simp] theorem State.resetBlock_hbuf : (s.resetBlock).hbuf = State.reset.hbuf := rfl
@[simp] theorem State.resetBlock_pos : (s.resetBlock).pos = State.reset.pos := rfl
@[simp] theorem State.resetBlock_pending : (s.resetBlock).pending = State.reset.pending := rfl
@[simp] theorem State.resetBlock_answer : (s.resetBlock).answer = State.reset.answer := rfl
@[simp] theorem State.resetBlock_sinkOpened : (s.resetBlock).sinkOpened = State.reset.sinkOpened := rfl
@[simp] theorem State.resetBlock_rxq : (s.resetBlock).rxq = s.rxq := rfl
@[simp] theorem State.resetBlock_txq : (s.resetBlock).txq = s.txq := rfl
@[simp] theorem State.resetBlock_sinkFile : (s.resetBlock).sinkFile = s.sinkFile := rfl
@[simp] theorem State.resetBlock_draws : (s.resetBlock).draws = s.draws := rfl
@[simp] theorem State.resetBlock_agenda : (s.resetBlock).agenda = s.agenda := rfl
@[simp] theorem State.resetBlock_trace : (s.resetBlock).trace = s.trace := rfl

end Sys2Proof.Machine
end

