-- ==== Sys2Proof/Laws/Ops.lean ====
section
/-! SUPPORT. What each shared operation can do, said once: the locked write, the link and file ports, the end of a
session, the chunk sequence and the host's accesses. -/

namespace Sys2Proof.Machine

/-! ### Host accesses -/

theorem State.lockedWrite_idle {s w : State} (h : s.busy = false) : s.lockedWrite w = w := by
  simp [State.lockedWrite, h]

theorem State.lockedWrite_busy {s w : State} (h : s.busy = true) : s.lockedWrite w = s.setWerr := by
  simp [State.lockedWrite, h]

theorem State.lockedWrite_cases (s w : State) :
    (s.busy = true ∧ s.lockedWrite w = s.setWerr) ∨ (s.busy = false ∧ s.lockedWrite w = w) := by
  cases h : s.busy
  · exact .inr ⟨rfl, State.lockedWrite_idle h⟩
  · exact .inl ⟨rfl, State.lockedWrite_busy h⟩

theorem HostAccess.admitted_iff (a : HostAccess) :
    a.admitted = true ↔ a.size = 4 ∧ a.offset % 4 = 0 ∧ a.offset < 0x100 := by
  simp [HostAccess.admitted, and_assoc]

/-- An access that is not admitted is refused (20_memory.md R82). -/
theorem hostAccess_notAdmitted {a : HostAccess} {s : State} (h : a.admitted = false) :
    hostAccess a s = .refused .accessNotAdmitted := by
  simp [hostAccess, h]

/-- An admitted access runs the instruction its descriptor decodes to. -/
theorem hostAccess_admitted {a : HostAccess} {s : State} {i : Instr} (h : a.admitted = true)
    (hd : decode a.code = .ok i) : hostAccess a s = exec i s := by
  simp [hostAccess, h, hd]

/-! ### The link port -/

/-- A LinkDiscard removes a prefix, of any length up to the whole queue (20_memory.md R91). -/
theorem discardFrom_eq_drop (draw : Nat) (q : List Byte) : ∃ k, k ≤ q.length ∧ discardFrom draw q = q.drop k := by
  cases q with
  | nil => exact ⟨0, Nat.le_refl 0, rfl⟩
  | cons b r =>
    refine ⟨discardCount draw (r.length + 1), ?_, rfl⟩
    have := Nat.mod_lt (Config.discardDraw draw) (show 0 < r.length + 1 + 1 by omega)
    simp only [discardCount, List.length_cons]
    omega

theorem recvControl_nil {s : State} (h : s.rxq = []) : recvControl s = .next s := by
  simp [recvControl, h]

theorem recvControl_cons {s : State} {b : Byte} {r : List Byte} (h : s.rxq = b :: r) :
    recvControl s = exec (decodeCtrl b) { s with rxq := r } := by
  simp [recvControl, h]

/-! ### The end of a session -/

/-- What a raise does (60_exceptions.md R335). -/
theorem State.raise_cases (s : State) (o : SessionOutcome) (d : Detail) :
    (s.sess.dir = .send ∧ s.raise o d = s.goto (.sClose (.raised o d))) ∨
    (s.sess.dir = .receive ∧ s.sinkOpened = true ∧ s.raise o d = s.goto (.rClose (.raised o d))) ∨
    (s.sess.dir = .receive ∧ s.sinkOpened = false ∧ s.raise o d = s.endSession o d) := by
  cases hd : s.sess.dir with
  | send => exact .inl ⟨rfl, by simp [State.raise, hd]⟩
  | receive =>
    cases ho : s.sinkOpened
    · exact .inr (.inr ⟨rfl, rfl, by simp [State.raise, hd, ho]⟩)
    · exact .inr (.inl ⟨rfl, rfl, by simp [State.raise, hd, ho]⟩)

@[simp] theorem State.endAfterClose_finish (s : State) :
    s.endAfterClose .finish = s.endSession (if s.exhausted then .successExhausted else .success) .noError := rfl

@[simp] theorem State.endAfterClose_raised (s : State) (o : SessionOutcome) (d : Detail) :
    s.endAfterClose (.raised o d) = s.endSession o d := rfl

/-! ### The chunk sequence -/

/-- After a chunk: the next one, or the close after the remainder chunk (R203, R244). -/
theorem State.nextChunk_cases (s : State) (again close : Pos) :
    (s.res.chunkIdx < s.res.numFull ∧ s.nextChunk again close = s.startChunk (s.res.chunkIdx + 1#32) again) ∨
    (¬ s.res.chunkIdx < s.res.numFull ∧ s.nextChunk again close = s.goto close) := by
  by_cases h : s.res.chunkIdx < s.res.numFull
  · exact .inl ⟨h, by simp [State.nextChunk, h]⟩
  · exact .inr ⟨h, by simp [State.nextChunk, h]⟩

/-- The verdict NOK: a retry, an abort in strict mode, or a lenient advance (R209, R249). -/
theorem State.nokVerdict_cases (s : State) (again : Pos) (advance : State → State) :
    (s.res.retryCnt + 1#8 < s.sess.rc ∧ s.nokVerdict again advance = s.countNok.goto again) ∨
    (¬ s.res.retryCnt + 1#8 < s.sess.rc ∧ s.sess.rstrict = true ∧
      s.nokVerdict again advance = { s.countNok with exhausted := true }.raise .retryExhausted .retryLimit) ∨
    (¬ s.res.retryCnt + 1#8 < s.sess.rc ∧ s.sess.rstrict = false ∧
      s.nokVerdict again advance = advance { s.countNok with exhausted := true }) := by
  by_cases h : s.res.retryCnt + 1#8 < s.sess.rc
  · exact .inl ⟨h, by simp [State.nokVerdict, h]⟩
  · cases hr : s.sess.rstrict
    · exact .inr (.inr ⟨h, rfl, by simp [State.nokVerdict, h, hr]⟩)
    · exact .inr (.inl ⟨h, rfl, by simp [State.nokVerdict, h, hr]⟩)

/-! ### The file port -/

/-! ### Which answers a request admits (20_memory.md R92) -/

@[simp] theorem FileRequest.admits_srcRead_data (off n : Word) (b : List Byte) :
    (FileRequest.srcRead off n).admits (.data b) = (b.length == n.toNat) := rfl
@[simp] theorem FileRequest.admits_srcRead_ack (off n : Word) :
    (FileRequest.srcRead off n).admits (.ack) = false := rfl
@[simp] theorem FileRequest.admits_srcRead_ioErr (off n : Word) :
    (FileRequest.srcRead off n).admits (.ioErr) = true := rfl
@[simp] theorem FileRequest.admits_srcClose_data (b : List Byte) :
    (FileRequest.srcClose).admits (.data b) = false := rfl
@[simp] theorem FileRequest.admits_srcClose_ack :
    (FileRequest.srcClose).admits (.ack) = true := rfl
@[simp] theorem FileRequest.admits_srcClose_ioErr :
    (FileRequest.srcClose).admits (.ioErr) = false := rfl
@[simp] theorem FileRequest.admits_sinkOpen_data (name : List Byte) (b : List Byte) :
    (FileRequest.sinkOpen name).admits (.data b) = false := rfl
@[simp] theorem FileRequest.admits_sinkOpen_ack (name : List Byte) :
    (FileRequest.sinkOpen name).admits (.ack) = true := rfl
@[simp] theorem FileRequest.admits_sinkOpen_ioErr (name : List Byte) :
    (FileRequest.sinkOpen name).admits (.ioErr) = true := rfl
@[simp] theorem FileRequest.admits_sinkAppend_data (s : List Byte) (b : List Byte) :
    (FileRequest.sinkAppend s).admits (.data b) = false := rfl
@[simp] theorem FileRequest.admits_sinkAppend_ack (s : List Byte) :
    (FileRequest.sinkAppend s).admits (.ack) = true := rfl
@[simp] theorem FileRequest.admits_sinkAppend_ioErr (s : List Byte) :
    (FileRequest.sinkAppend s).admits (.ioErr) = true := rfl
@[simp] theorem FileRequest.admits_sinkClose_data (b : List Byte) :
    (FileRequest.sinkClose).admits (.data b) = false := rfl
@[simp] theorem FileRequest.admits_sinkClose_ack :
    (FileRequest.sinkClose).admits (.ack) = true := rfl
@[simp] theorem FileRequest.admits_sinkClose_ioErr :
    (FileRequest.sinkClose).admits (.ioErr) = false := rfl

/-- Taking an answer: a hold, or the continuation on an admitted answer (20_memory.md R92). -/
theorem State.takeAnswer_next {s t : State} {k : State → FileAnswer → Result} (h : s.takeAnswer k = .next t) :
    (s.answer = none ∧ t = s) ∨
    ∃ x r, s.answer = some x ∧ s.pending = some r ∧ r.admits x = true ∧ k s.portDone x = .next t := by
  unfold State.takeAnswer at h
  cases ha : s.answer with
  | none => rw [ha] at h; cases h; exact .inl ⟨rfl, rfl⟩
  | some x =>
    cases hp : s.pending with
    | none => rw [ha, hp] at h; cases h
    | some r =>
      rw [ha, hp] at h
      dsimp only at h
      split at h
      · exact .inr ⟨x, r, rfl, rfl, ‹_›, h⟩
      · cases h

theorem State.takeAnswer_hold {s : State} {k : State → FileAnswer → Result} (h : s.answer = none) :
    s.takeAnswer k = .next s := by
  simp [State.takeAnswer, h]

theorem State.takeAnswer_some {s : State} {k : State → FileAnswer → Result} {x : FileAnswer} {r : FileRequest}
    (ha : s.answer = some x) (hp : s.pending = some r) (hx : r.admits x = true) :
    s.takeAnswer k = k s.portDone x := by
  simp [State.takeAnswer, ha, hp, hx]

/-- The host's answer is kept only when a request waits for it and admits it (R92). -/
theorem State.hostAnswer_next {s t : State} {x : FileAnswer} (h : s.hostAnswer x = .next t) :
    ∃ r, s.pending = some r ∧ s.answer = none ∧ r.admits x = true ∧
      t = { s with answer := some x, sinkFile := sinkAfter r x s.sinkFile } := by
  unfold State.hostAnswer at h
  cases hp : s.pending with
  | none => rw [hp] at h; cases h
  | some r =>
    cases ha : s.answer with
    | some y => rw [hp, ha] at h; cases h
    | none =>
      rw [hp, ha] at h
      dsimp only at h
      split at h
      · cases h; exact ⟨r, rfl, rfl, ‹_›, rfl⟩
      · cases h

end Sys2Proof.Machine
end

