-- ==== Sys2Proof/Laws/PerInstr.lean ====
section
/-! SUPPORT. One family of statements made per instruction: what the encoder writes for a well-formed instruction is a
control byte, or a descriptor whose offset is a multiple of 4 (20_memory.md R82, 30_encoding.md R118). -/

namespace Sys2Proof.Laws

/-- A code word that the decoder does not reject. -/
def Admissible : Code → Prop
  | .ctrl8 _ => True
  | .bus d => (descOff d).toNat % 4 = 0

theorem admissible_write (off : BitVec 8) (data : Word) (h : off.toNat % 4 = 0) : Admissible (busWrite off data) := by
  simpa [Admissible, busWrite] using h

theorem admissible_read (off : BitVec 8) (h : off.toNat % 4 = 0) : Admissible (busRead off) := by
  simpa [Admissible, busRead] using h

/-- The encoding of `i`, when `i` is well-formed, is admissible. -/
def EncodingAdmissible.Statement (i : Instr) : Prop := i.WellFormed = true → Admissible (encode i)

theorem EncodingAdmissible.eot : EncodingAdmissible.Statement .eot :=
  fun _ => trivial
theorem EncodingAdmissible.bot : EncodingAdmissible.Statement .bot :=
  fun _ => trivial
theorem EncodingAdmissible.lok : EncodingAdmissible.Statement .lok :=
  fun _ => trivial
theorem EncodingAdmissible.sync : EncodingAdmissible.Statement .sync :=
  fun _ => trivial
theorem EncodingAdmissible.ok : EncodingAdmissible.Statement .ok :=
  fun _ => trivial
theorem EncodingAdmissible.rsd : EncodingAdmissible.Statement .rsd :=
  fun _ => trivial
theorem EncodingAdmissible.sok : EncodingAdmissible.Statement .sok :=
  fun _ => trivial
theorem EncodingAdmissible.nok : EncodingAdmissible.Statement .nok :=
  fun _ => trivial
theorem EncodingAdmissible.ctrlOther (b : Byte) : EncodingAdmissible.Statement (.ctrlOther b) :=
  fun _ => trivial
theorem EncodingAdmissible.send : EncodingAdmissible.Statement .send :=
  fun _ => admissible_write _ _ (by decide)
theorem EncodingAdmissible.receive : EncodingAdmissible.Statement .receive :=
  fun _ => admissible_write _ _ (by decide)
theorem EncodingAdmissible.crcClear : EncodingAdmissible.Statement .crcClear :=
  fun _ => admissible_write _ _ (by decide)
theorem EncodingAdmissible.cmdReserved (data : Word) : EncodingAdmissible.Statement (.cmdReserved data) :=
  fun _ => admissible_write _ _ (by decide)
theorem EncodingAdmissible.crcUpdate (data : Word) : EncodingAdmissible.Statement (.crcUpdate data) :=
  fun _ => admissible_write _ _ (by decide)
theorem EncodingAdmissible.wrCtrl (data : Word) : EncodingAdmissible.Statement (.wrCtrl data) :=
  fun _ => admissible_write _ _ (by decide)
theorem EncodingAdmissible.wrStatus (data : Word) : EncodingAdmissible.Statement (.wrStatus data) :=
  fun _ => admissible_write _ _ (by decide)
theorem EncodingAdmissible.wrRetrycount (data : Word) : EncodingAdmissible.Statement (.wrRetrycount data) :=
  fun _ => admissible_write _ _ (by decide)
theorem EncodingAdmissible.wrChunkSize (data : Word) : EncodingAdmissible.Statement (.wrChunkSize data) :=
  fun _ => admissible_write _ _ (by decide)
theorem EncodingAdmissible.wrFileSize (data : Word) : EncodingAdmissible.Statement (.wrFileSize data) :=
  fun _ => admissible_write _ _ (by decide)
theorem EncodingAdmissible.wrCrcPoly (data : Word) : EncodingAdmissible.Statement (.wrCrcPoly data) :=
  fun _ => admissible_write _ _ (by decide)
theorem EncodingAdmissible.wrCrcInit (data : Word) : EncodingAdmissible.Statement (.wrCrcInit data) :=
  fun _ => admissible_write _ _ (by decide)
theorem EncodingAdmissible.wrCrcXorout (data : Word) : EncodingAdmissible.Statement (.wrCrcXorout data) :=
  fun _ => admissible_write _ _ (by decide)
theorem EncodingAdmissible.wrName (k : BitVec 4) (data : Word) : EncodingAdmissible.Statement (.wrName k data) :=
  fun _ => admissible_write _ data (by rw [nameOffset_toNat]; omega)
theorem EncodingAdmissible.wrIgnored (off : BitVec 8) (data : Word) : EncodingAdmissible.Statement (.wrIgnored off data) :=
  fun h => admissible_write off data (of_decide_eq_true h).1
theorem EncodingAdmissible.rdCtrl : EncodingAdmissible.Statement .rdCtrl :=
  fun _ => admissible_read _ (by decide)
theorem EncodingAdmissible.rdCmd : EncodingAdmissible.Statement .rdCmd :=
  fun _ => admissible_read _ (by decide)
theorem EncodingAdmissible.rdStatus : EncodingAdmissible.Statement .rdStatus :=
  fun _ => admissible_read _ (by decide)
theorem EncodingAdmissible.rdRetrycount : EncodingAdmissible.Statement .rdRetrycount :=
  fun _ => admissible_read _ (by decide)
theorem EncodingAdmissible.rdChunkSize : EncodingAdmissible.Statement .rdChunkSize :=
  fun _ => admissible_read _ (by decide)
theorem EncodingAdmissible.rdFileSize : EncodingAdmissible.Statement .rdFileSize :=
  fun _ => admissible_read _ (by decide)
theorem EncodingAdmissible.rdCrcPoly : EncodingAdmissible.Statement .rdCrcPoly :=
  fun _ => admissible_read _ (by decide)
theorem EncodingAdmissible.rdCrcInit : EncodingAdmissible.Statement .rdCrcInit :=
  fun _ => admissible_read _ (by decide)
theorem EncodingAdmissible.rdCrcXorout : EncodingAdmissible.Statement .rdCrcXorout :=
  fun _ => admissible_read _ (by decide)
theorem EncodingAdmissible.rdCrcDin : EncodingAdmissible.Statement .rdCrcDin :=
  fun _ => admissible_read _ (by decide)
theorem EncodingAdmissible.rdCrcAcc : EncodingAdmissible.Statement .rdCrcAcc :=
  fun _ => admissible_read _ (by decide)
theorem EncodingAdmissible.rdCrcOut : EncodingAdmissible.Statement .rdCrcOut :=
  fun _ => admissible_read _ (by decide)
theorem EncodingAdmissible.rdChunkIdx : EncodingAdmissible.Statement .rdChunkIdx :=
  fun _ => admissible_read _ (by decide)
theorem EncodingAdmissible.rdRetryCnt : EncodingAdmissible.Statement .rdRetryCnt :=
  fun _ => admissible_read _ (by decide)
theorem EncodingAdmissible.rdNumFull : EncodingAdmissible.Statement .rdNumFull :=
  fun _ => admissible_read _ (by decide)
theorem EncodingAdmissible.rdRemSize : EncodingAdmissible.Statement .rdRemSize :=
  fun _ => admissible_read _ (by decide)
theorem EncodingAdmissible.rdRxFileSize : EncodingAdmissible.Statement .rdRxFileSize :=
  fun _ => admissible_read _ (by decide)
theorem EncodingAdmissible.rdRxChunkSize : EncodingAdmissible.Statement .rdRxChunkSize :=
  fun _ => admissible_read _ (by decide)
theorem EncodingAdmissible.rdRxCrcx : EncodingAdmissible.Statement .rdRxCrcx :=
  fun _ => admissible_read _ (by decide)
theorem EncodingAdmissible.rdRxPoly : EncodingAdmissible.Statement .rdRxPoly :=
  fun _ => admissible_read _ (by decide)
theorem EncodingAdmissible.rdRxInitx : EncodingAdmissible.Statement .rdRxInitx :=
  fun _ => admissible_read _ (by decide)
theorem EncodingAdmissible.rdRxHdrCrc : EncodingAdmissible.Statement .rdRxHdrCrc :=
  fun _ => admissible_read _ (by decide)
theorem EncodingAdmissible.rdRxHdrCalc : EncodingAdmissible.Statement .rdRxHdrCalc :=
  fun _ => admissible_read _ (by decide)
theorem EncodingAdmissible.rdNokTotal : EncodingAdmissible.Statement .rdNokTotal :=
  fun _ => admissible_read _ (by decide)
theorem EncodingAdmissible.rdErrinfo : EncodingAdmissible.Statement .rdErrinfo :=
  fun _ => admissible_read _ (by decide)
theorem EncodingAdmissible.rdName (k : BitVec 4) : EncodingAdmissible.Statement (.rdName k) :=
  fun _ => admissible_read _ (by rw [nameOffset_toNat]; omega)
theorem EncodingAdmissible.rdUnmapped (off : BitVec 8) : EncodingAdmissible.Statement (.rdUnmapped off) :=
  fun h => admissible_read off (of_decide_eq_true h).1

end Sys2Proof.Laws
end

