-- ==== Sys2Proof/Laws/Step.lean ====
section
/-! SUPPORT. What a step can do: the step is one turn of the interleaving, and what the block's turn is at each
position. -/

namespace Sys2Proof.Machine

/-- With an empty agenda the block moves. -/
theorem step_nil {s : State} (h : s.agenda = []) : step s = blockStep s := by
  simp [step, takeTurn, h]

/-- The agenda's head is the turn taken. -/
theorem step_cons {s : State} {t : Turn} {rest : List Turn} (h : s.agenda = t :: rest) :
    step s = takeTurn t { s with agenda := rest } := by
  simp [step, h]

/-- A step is one turn: the block's on an empty agenda, or the agenda's head. -/
theorem step_cases (s : State) :
    (s.agenda = [] ∧ step s = blockStep s) ∨
    ∃ t rest, s.agenda = t :: rest ∧ step s = takeTurn t { s with agenda := rest } := by
  cases h : s.agenda with
  | nil => exact .inl ⟨rfl, step_nil h⟩
  | cons t rest => exact .inr ⟨t, rest, rfl, step_cons h⟩

@[simp] theorem takeTurn_block (s : State) : takeTurn .block s = blockStep s := rfl
@[simp] theorem takeTurn_access (a : HostAccess) (s : State) : takeTurn (.access a) s = hostAccess a s := rfl
@[simp] theorem takeTurn_answer (x : FileAnswer) (s : State) : takeTurn (.answer x) s = s.hostAnswer x := rfl
@[simp] theorem takeTurn_deliver (b : Byte) (s : State) : takeTurn (.deliver b) s = .next (s.deliver b) := rfl
@[simp] theorem takeTurn_reset (s : State) : takeTurn .reset s = .next s.resetBlock := rfl

/-- An idle block changes nothing (60_exceptions.md R341). -/
theorem blockStep_idle {s : State} (h : s.pos = .idle) : blockStep s = .next s := by
  simp [blockStep, h]

/-- At a handshake wait the block's turn receives a control byte. -/
theorem blockStep_wait {s : State} (h : s.pos.handshakeWait = true) : blockStep s = recvControl s := by
  unfold blockStep
  cases hp : s.pos <;> first | rfl | (rw [hp] at h; cases h)

/-- A byte at a handshake wait is taken from `rxq` and run as a control byte. -/
theorem blockStep_control {s : State} {b : Byte} {r : List Byte} (h : s.pos.handshakeWait = true)
    (hq : s.rxq = b :: r) : blockStep s = exec (decodeCtrl b) { s with rxq := r } := by
  rw [blockStep_wait h, recvControl_cons hq]

end Sys2Proof.Machine
end

