-- ==== Sys2Proof/Laws/Run.lean ====
section
/-! SUPPORT. Runs of several steps: one more step, runs joined end to end, a step that holds; and what the receiver does
after its header's last byte, in the terms of Safety.lean. -/

namespace Sys2Proof.Machine

@[simp] theorem runSteps_zero (s : State) : runSteps 0 s = .next s := rfl

/-- A run whose first step answers `t` goes on from `t`. -/
theorem runSteps_next {n : Nat} {s t : State} (h : step s = .next t) : runSteps (n + 1) s = runSteps n t := by
  simp [runSteps, h]

/-- A run of one step is the step. -/
theorem runSteps_one (s : State) : runSteps 1 s = step s := by
  unfold runSteps
  cases step s <;> rfl

/-- A run of `m + n` steps is the run of `n` steps from where `m` steps lead. -/
theorem runSteps_add :
    ∀ {m : Nat} (n : Nat) {s t : State}, runSteps m s = .next t → runSteps (m + n) s = runSteps n t
  | 0, n, s, t, h => by
    rw [runSteps_zero] at h
    cases h
    rw [Nat.zero_add]
  | m + 1, n, s, t, h => by
    cases hs : step s with
    | next u =>
      rw [runSteps_next hs] at h
      rw [show m + 1 + n = m + n + 1 by omega, runSteps_next hs]
      exact runSteps_add n h
    | fault f => simp [runSteps, hs] at h
    | refused r => simp [runSteps, hs] at h

/-- A state whose step answers the state itself stays. -/
theorem runSteps_hold {s : State} (h : step s = .next s) : ∀ n : Nat, runSteps n s = .next s
  | 0 => rfl
  | n + 1 => by rw [runSteps_next h, runSteps_hold h n]

/-- After the header's last byte a receiver without an open file reports the 88 bytes of HBUF, and refuses them or takes
its sizes from them (43_receiver.md R242, R243). -/
theorem receiverHeaderDone_eq {s : State} (hd : s.sess.dir = .receive) (ho : s.sinkOpened = false) :
    receiverHeaderDone s =
      s.afterHeader s.rxq s.hbuf (nameOfBytes (slice (s.hbuf.readRange 0 88) 12 76)) (s.hbuf.readRange 0 88) := by
  have cut : ∀ h : List Byte, slice h 0 84 = h.take 84 := fun _ => rfl
  unfold receiverHeaderDone State.afterHeader
  simp only [hdrSize]
  cases decodeHeader s.params.chunkBufSize s.sess.cfg s.sess.hstrict (s.hbuf.readRange 0 88) <;>
    simp [State.raise, State.endSession, State.deriveCounts, State.goto, receiverReport, headerNameField, headerCalc, cut,
      hd, ho]

end Sys2Proof.Machine
end

