-- ==== Sys2Proof/Tests/Slice0.lean ====
section
/-! SUPPORT. Tests. An expected value comes from the spec: a test vector of 95_test_vectors.md is named by its id, a
worked example by its rule, a code word is written out from 30_encoding.md. The last section shows, for each statement
of Certificates/Slice0 that has premises, states and operands that meet them, clause by clause, at boundary values. -/

namespace Sys2Proof.Tests
open Sys2Proof Sys2Proof.Machine

-- One theorem after another: a thread for each would pass the memory limit of check.sh.
set_option Elab.async false

/-! ### Small states -/

/-- "a.txt". -/
def fileName : List Byte := [0x61#8, 0x2E#8, 0x74#8, 0x78#8, 0x74#8]

/-- "hell". -/
def hell : List Byte := [0x68#8, 0x65#8, 0x6C#8, 0x6C#8]

/-- "123456789". -/
def digits : List Byte := [0x31#8, 0x32#8, 0x33#8, 0x34#8, 0x35#8, 0x36#8, 0x37#8, 0x38#8, 0x39#8]

/-- An idle machine with a 64-byte chunk buffer, FILE_SIZE 5, CHUNK_SIZE 8, RETRYCOUNT 3 and the name "a.txt". -/
def idle : State :=
  { State.reset with
    params := { retrycountDefault := 3#8, chunkSizeDefault := 8#32, chunkBufSize := 64 }
    retrycount := 3#8, chunkSize := 8#32, fileSize := 5#32, name := nameOfBytes (nameField fileName) }

/-- A running session of `d` at `p`: 5 bytes in chunks of 4, the first chunk current. -/
def running (d : Direction) (p : Pos) : State :=
  { idle with
    busy := true, dir := d, pos := p
    sess := {
      dir := d, cfg := idle.cfgNow, rc := 3#8, hstrict := false, rstrict := false
      fs := 5#32, cs := 8#32, p := 4#32, len := 4#32, ok := false }
    res := { Results.cleared with numFull := 1#32, remSize := 1#32 } }

/-- A sender at `p`. -/
def sending (p : Pos) : State := running .send p

/-- A receiver at `p`, its output file open where the position has it open. -/
def receiving (p : Pos) : State := { running .receive p with sinkOpened := p.sinkIsOpen }

/-- The value of `f` in the next state that `r` answers. -/
def seen {α : Type} (f : State → α) (r : Result) : Option α :=
  match r with
  | .next s => some (f s)
  | .fault _ | .refused _ => none

/-- Why a result is a refusal. -/
def refusal (r : Result) : Option Refusal :=
  match r with
  | .refused x => some x
  | .next _ | .fault _ => none

/-- The last value the host has read. -/
def lastRead (s : State) : Option Word := s.trace.getLast?

/-! ### WellFormed: a term that each check refuses -/

theorem test_ctrlOther_of_a_control_byte_is_ill_formed :
    (Instr.ctrlOther 0x01#8).WellFormed = false ∧ (Instr.ctrlOther 0x08#8).WellFormed = false ∧
    (Instr.ctrlOther 0x00#8).WellFormed = true ∧ (Instr.ctrlOther 0x09#8).WellFormed = true := by decide

theorem test_cmdReserved_of_a_command_is_ill_formed :
    (Instr.cmdReserved 1#32).WellFormed = false ∧ (Instr.cmdReserved 2#32).WellFormed = false ∧
    (Instr.cmdReserved 3#32).WellFormed = false ∧ (Instr.cmdReserved 4#32).WellFormed = true := by decide

theorem test_wrIgnored_of_a_written_offset_is_ill_formed :
    (Instr.wrIgnored 0x00#8 0#32).WellFormed = false ∧ (Instr.wrIgnored 0x24#8 0#32).WellFormed = false ∧
    (Instr.wrIgnored 0x80#8 0#32).WellFormed = false ∧ (Instr.wrIgnored 0xBC#8 0#32).WellFormed = false := by decide

theorem test_wrIgnored_of_a_misaligned_offset_is_ill_formed :
    (Instr.wrIgnored 0x29#8 0#32).WellFormed = false ∧ (Instr.wrIgnored 0xC2#8 0#32).WellFormed = false := by decide

theorem test_rdUnmapped_of_a_register_is_ill_formed :
    (Instr.rdUnmapped 0x00#8).WellFormed = false ∧ (Instr.rdUnmapped 0x60#8).WellFormed = false ∧
    (Instr.rdUnmapped 0x80#8).WellFormed = false ∧ (Instr.rdUnmapped 0x66#8).WellFormed = false := by decide

/-! ### Decoding: one word for each constructor (30_encoding.md R111, R112, R118, R119; 10_state.md R32) -/

theorem test_decode_control_bytes :
    decodeTableWord 8 0b00000001 = some .eot ∧ decodeTableWord 8 0b00000010 = some .bot ∧
    decodeTableWord 8 0b00000011 = some .lok ∧ decodeTableWord 8 0b00000100 = some .sync ∧
    decodeTableWord 8 0b00000101 = some .ok ∧ decodeTableWord 8 0b00000110 = some .rsd ∧
    decodeTableWord 8 0b00000111 = some .sok ∧ decodeTableWord 8 0b00001000 = some .nok ∧
    decodeTableWord 8 0b00000000 = some (.ctrlOther 0x00#8) ∧
    decodeTableWord 8 0b11111111 = some (.ctrlOther 0xFF#8) := by decide +kernel

theorem test_decode_commands :
    decodeTableWord 48 0x10400000001 = some .send ∧ decodeTableWord 48 0x10400000002 = some .receive ∧
    decodeTableWord 48 0x10400000003 = some .crcClear ∧
    decodeTableWord 48 0x10480000001 = some (.cmdReserved 0x80000001#32) := by decide +kernel

theorem test_decode_writes :
    decodeTableWord 48 0x12400000031 = some (.crcUpdate 0x31#32) ∧
    decodeTableWord 48 0x1000000000C = some (.wrCtrl 0xC#32) ∧
    decodeTableWord 48 0x10800000006 = some (.wrStatus 6#32) ∧
    decodeTableWord 48 0x10C00000003 = some (.wrRetrycount 3#32) ∧
    decodeTableWord 48 0x11000000008 = some (.wrChunkSize 8#32) ∧
    decodeTableWord 48 0x11400000005 = some (.wrFileSize 5#32) ∧
    decodeTableWord 48 0x11804C11DB7 = some (.wrCrcPoly 0x04C11DB7#32) ∧
    decodeTableWord 48 0x11CFFFFFFFF = some (.wrCrcInit 0xFFFFFFFF#32) ∧
    decodeTableWord 48 0x12000000000 = some (.wrCrcXorout 0#32) ∧
    decodeTableWord 48 0x18078742E61 = some (.wrName 0#4 0x78742E61#32) ∧
    decodeTableWord 48 0x1BC00414141 = some (.wrName 15#4 0x00414141#32) ∧
    decodeTableWord 48 0x12800000000 = some (.wrIgnored 0x28#8 0#32) := by decide +kernel

theorem test_decode_configuration_reads :
    decodeTableWord 48 0x00000000000 = some .rdCtrl ∧ decodeTableWord 48 0x00400000000 = some .rdCmd ∧
    decodeTableWord 48 0x00800000000 = some .rdStatus ∧ decodeTableWord 48 0x00C00000000 = some .rdRetrycount ∧
    decodeTableWord 48 0x01000000000 = some .rdChunkSize ∧ decodeTableWord 48 0x01400000000 = some .rdFileSize ∧
    decodeTableWord 48 0x01800000000 = some .rdCrcPoly ∧ decodeTableWord 48 0x01C00000000 = some .rdCrcInit ∧
    decodeTableWord 48 0x02000000000 = some .rdCrcXorout ∧ decodeTableWord 48 0x02400000000 = some .rdCrcDin ∧
    decodeTableWord 48 0x02800000000 = some .rdCrcAcc ∧ decodeTableWord 48 0x02C00000000 = some .rdCrcOut := by
  decide +kernel

theorem test_decode_result_reads :
    decodeTableWord 48 0x03000000000 = some .rdChunkIdx ∧ decodeTableWord 48 0x03400000000 = some .rdRetryCnt ∧
    decodeTableWord 48 0x03800000000 = some .rdNumFull ∧ decodeTableWord 48 0x03C00000000 = some .rdRemSize ∧
    decodeTableWord 48 0x04000000000 = some .rdRxFileSize ∧ decodeTableWord 48 0x04400000000 = some .rdRxChunkSize ∧
    decodeTableWord 48 0x04800000000 = some .rdRxCrcx ∧ decodeTableWord 48 0x04C00000000 = some .rdRxPoly ∧
    decodeTableWord 48 0x05000000000 = some .rdRxInitx ∧ decodeTableWord 48 0x05400000000 = some .rdRxHdrCrc ∧
    decodeTableWord 48 0x05800000000 = some .rdRxHdrCalc ∧ decodeTableWord 48 0x05C00000000 = some .rdNokTotal ∧
    decodeTableWord 48 0x06000000000 = some .rdErrinfo ∧ decodeTableWord 48 0x09400000000 = some (.rdName 5#4) ∧
    decodeTableWord 48 0x06400000000 = some (.rdUnmapped 0x64#8) ∧
    decodeTableWord 48 0x0FC00000000 = some (.rdUnmapped 0xFC#8) := by decide +kernel

theorem test_decode_rejects_by_name :
    decode (.bus 0x10100000000#41) = .error .misalignedOffset ∧
    decode (.bus 0x08200000000#41) = .error .misalignedOffset ∧ decodeTableWord 48 0x20000000000 = none := by
  decide +kernel

theorem test_encode_a_name_write : encode (.wrName 15#4 0x00414141#32) = .bus 0x1BC00414141#41 := by decide +kernel

/-! ### CRC and header (95_test_vectors.md sections 2 to 4) -/

theorem test_crc_standard_check_value : checksum idle.cfgNow digits = 0xCBF43926#32 := by decide +kernel -- V-CRC-1

theorem test_crc_of_nothing_and_of_hell :
    checksum idle.cfgNow [] = 0#32 ∧ checksum idle.cfgNow hell = 0x1C8600E3#32 := by decide +kernel -- V-CRC-2, 10

theorem test_crc_unreflected :
    checksum { idle.cfgNow with refin := false, refout := false } digits = 0xFC891918#32 := by decide +kernel -- 20

theorem test_crc_input_reflected_only :
    checksum { idle.cfgNow with refout := false } digits = 0x649C2FD3#32 := by decide +kernel -- V-CRC-25

theorem test_crc_output_reflected_only :
    checksum { idle.cfgNow with refin := false } digits = 0x1898913F#32 := by decide +kernel -- V-CRC-26

/-- The header of section 3.1. -/
def header : Header where
  fileSize := 5#32
  chunkSize := 8#32
  crcX := 0xFFFFFFFF#32
  fileName := fileName
  poly := 0x04C11DB7#32
  initX := 0xFFFFFFFF#32
  crcCheck := 0x846608D0#32

/-- The 88 bytes of section 3.1. -/
def headerWire : List Byte :=
  [0x05#8, 0#8, 0#8, 0#8, 0x08#8, 0#8, 0#8, 0#8, 0xFF#8, 0xFF#8, 0xFF#8, 0xFF#8] ++
  (fileName ++ List.replicate 59 0#8) ++
  [0xB7#8, 0x1D#8, 0xC1#8, 0x04#8, 0xFF#8, 0xFF#8, 0xFF#8, 0xFF#8, 0xD0#8, 0x08#8, 0x66#8, 0x84#8]

theorem test_header_encode : encodeHeader header idle.cfgNow = headerWire := by decide +kernel

theorem test_header_decode : decodeHeader 4096 idle.cfgNow true headerWire = .ok header := by decide +kernel -- V-DEC-1

theorem test_header_bad_check :
    let altered := headerWire.set 84 0xD1#8
    decodeHeader 4096 idle.cfgNow true altered = .error .badChecksum ∧
    decodeHeader 4096 idle.cfgNow false altered = .ok { header with crcCheck := 0x846608D1#32 } := by
  decide +kernel -- V-DEC-9

theorem test_header_size_boundaries :
    decodeHeader 4096 idle.cfgNow false (headerWire.set 3 0x80#8) = .error .negFilesize ∧
    decodeHeader 4096 idle.cfgNow false (headerWire.set 4 4#8) = .error .badChunksize ∧
    decodeHeader 4096 idle.cfgNow false (headerWire.set 7 0x80#8) = .error .badChunksize ∧
    decodeHeader 7 idle.cfgNow false headerWire = .error .badChunksize ∧
    decodeHeader 4096 idle.cfgNow false (headerWire.set 4 5#8) = .ok { header with chunkSize := 5#32 } := by
  decide +kernel -- V-DEC-2 to 6

theorem test_header_name_without_nul :
    decodeHeader 4096 idle.cfgNow false (headerWire.take 12 ++ List.replicate 64 0x41#8 ++ headerWire.drop 76) =
      .error .nameUnterminated := by decide +kernel -- V-DEC-7

theorem test_name_buffer_lanes :
    idle.name[0] = 0x78742E61#32 ∧ idle.name[1] = 0x00000074#32 ∧ nameBytes idle.name = nameField fileName := by
  decide +kernel -- V-MEM-5

/-! ### Control bytes (section 5; 44_control_bytes.md) -/

/-- At `sAwaitPeer` the byte is dropped and the wait goes on. -/
theorem test_sender_discards_the_other_bytes :
    [0x01#8, 0x03#8, 0x04#8, 0x05#8, 0x06#8, 0x07#8, 0x08#8, 0x00#8, 0xFF#8].map (fun b =>
      seen (fun t => (t.pos, t.rxq)) (blockStep { sending .sAwaitPeer with rxq := [b, 2#8] })) =
      List.replicate 9 (some (Pos.sAwaitPeer, [2#8])) := by decide +kernel -- V-CB-1

theorem test_bot_opens_the_sender :
    seen (fun t => (t.pos, t.hbuf.readRange 0 88)) (exec .bot (sending .sAwaitPeer)) =
      some (.sHeader 0, headerWire) := by decide +kernel -- V-CB-1, R202

theorem test_bot_opens_the_receiver :
    seen (fun t => (t.pos, t.rxq)) (blockStep { receiving .rAwaitBot with rxq := [2#8, 2#8] }) =
      some (.rEchoBot, [2#8]) := by decide +kernel -- V-CB-3

theorem test_sync_at_both_barriers :
    seen State.pos (exec .sync (sending .sWaitSync)) = some .sEchoSync ∧
    seen State.pos (exec .sync (receiving .rWaitSync)) = some .rSendVerdict := by decide +kernel -- V-CB-4, 7

theorem test_sync_is_no_verdict :
    seen State.pos (exec .sync (sending .sWaitVerdict)) = some .sWaitVerdict := by decide +kernel -- V-CB-5

/-- A sender facing a sender: the other's BOT and its chunk "hell" with its trailer hold no 0x04, and every byte of them
is dropped at the SYNC wait, which goes on. -/
theorem test_sender_holds_at_the_sync_wait_facing_a_sender :
    ([0x02#8] ++ hell ++ [0xE3#8, 0x00#8, 0x86#8, 0x1C#8]).map (fun b =>
      seen (fun t => (t.pos, t.rxq, t.txq)) (blockStep { sending .sWaitSync with rxq := [b] })) =
      List.replicate 9 (some (Pos.sWaitSync, [], [])) := by decide +kernel -- R379, R206

theorem test_sok_starts_the_next_chunk :
    seen (fun t => (t.pos, t.res.chunkIdx, t.sess.len)) (exec .sok (sending .sWaitVerdict)) =
      some (.sLoad, 1#32, 1#32) := by decide +kernel -- V-CB-5, R203

theorem test_nok_counts_and_retries :
    seen (fun t => (t.pos, t.res.retryCnt, t.res.nokTotal)) (exec .nok (sending .sWaitVerdict)) =
      some (.sDiscard, 1#8, 1#32) := by decide +kernel -- V-CB-6

theorem test_nok_exhausts_in_strict_mode :
    let s := sending .sWaitVerdict
    seen (fun t => (t.pos, t.exhausted))
      (exec .nok { s with sess := { s.sess with rstrict := true }, res := { s.res with retryCnt := 2#8 } }) =
      some (.sClose (.raised .retryExhausted .retryLimit), true) := by decide +kernel -- R209

/-! ### Commands and register accesses (section 6) -/

theorem test_send_accepted :
    seen (fun t => (t.statusWord, t.res.numFull, t.res.remSize)) (exec .send idle) =
      some (0x00010001#32, 1#32, 1#32) := by decide +kernel -- V-CMD-11

theorem test_send_refused :
    seen (fun t => (t.statusWord, t.res.errinfo.code)) (exec .send { idle with chunkSize := 4#32 }) =
      some (0x00000602#32, 0x12#8) := by decide +kernel -- V-CMD-4

theorem test_receive_accepted :
    seen State.statusWord (exec .receive { idle with chunkSize := 4#32 }) = some 0x00180001#32 := by
  decide +kernel -- V-CMD-13

theorem test_receive_refused :
    seen (fun t => (t.statusWord, t.res.errinfo.code)) (exec .receive { idle with retrycount := 0#8 }) =
      some (0x00100602#32, 0x13#8) := by decide +kernel -- V-CMD-12

theorem test_crc_clear :
    seen State.crcAcc (exec .crcClear { idle with crcInit := 0x12345678#32 }) = some 0x12345678#32 := by
  decide +kernel -- V-CRC-31

theorem test_cmd_reserved :
    seen State.statusWord (exec (.cmdReserved 0#32) idle) = some 0x00000004#32 := by decide +kernel -- V-CMD-14

theorem test_crc_update :
    seen State.crcAcc (exec (.crcUpdate 0x00000131#32) idle) = some 0x1208C43E#32 := by decide +kernel -- V-CRC-33

theorem test_crc_update_without_a_polynomial :
    seen State.crcAcc (exec (.crcUpdate 0x31#32) { idle with crcPoly := 0#32 }) = some 0xFFFFFF00#32 := by
  decide +kernel -- V-CRC-32

theorem test_wr_ctrl : seen State.ctrl (exec (.wrCtrl 0xFFFFFFF3#32) idle) = some 3#4 := by decide +kernel -- V-CMD-2

theorem test_wr_status :
    let s := { idle with done := true, werr := true, outcome := .success }
    seen State.statusWord (exec (.wrStatus 2#32) s) = some 0x00000104#32 := by decide +kernel -- V-CMD-17

theorem test_wr_status_read_only_bits :
    let s := { idle with done := true, outcome := .configError }
    seen State.statusWord (exec (.wrStatus 9#32) s) = some 0x00000602#32 := by decide +kernel -- V-CMD-18

theorem test_wr_retrycount :
    seen State.retrycount (exec (.wrRetrycount 0x105#32) idle) = some 5#8 := by decide +kernel -- V-CMD-1

theorem test_wr_chunk_size_while_busy :
    seen (fun t => (t.statusWord, t.chunkSize)) (exec (.wrChunkSize 0x10#32) (sending .sWaitSync)) =
      some (0x00050005#32, 8#32) := by decide +kernel -- V-BUSY-1

theorem test_wr_sizes_store_any_value :
    seen State.chunkSize (exec (.wrChunkSize 0x80000005#32) idle) = some 0x80000005#32 ∧
    seen State.fileSize (exec (.wrFileSize 0xFFFFFFFF#32) idle) = some 0xFFFFFFFF#32 := by decide +kernel -- R309

theorem test_wr_crc_configuration :
    seen State.crcPoly (exec (.wrCrcPoly 1#32) idle) = some 1#32 ∧
    seen State.crcInit (exec (.wrCrcInit 2#32) idle) = some 2#32 ∧
    seen State.crcXorout (exec (.wrCrcXorout 3#32) idle) = some 3#32 := by decide +kernel -- R310

theorem test_wr_name :
    seen (fun t => (t.name[1], t.name[2])) (exec (.wrName 1#4 0x00000074#32) State.reset) =
      some (0x00000074#32, 0#32) := by decide +kernel -- V-MEM-5

theorem test_wr_ignored : seen State.crcAcc (exec (.wrIgnored 0x28#8 0#32) idle) = some 0xFFFFFFFF#32 := by
  decide +kernel -- V-CMD-3

theorem test_reads_after_reset :
    [Instr.rdCtrl, .rdCmd, .rdStatus, .rdFileSize, .rdCrcPoly, .rdCrcInit, .rdCrcXorout, .rdCrcDin, .rdCrcAcc, .rdCrcOut,
      .rdErrinfo, .rdName 0#4].map (fun i => seen State.trace (exec i State.reset)) =
    [0xC#32, 0#32, 0#32, 0#32, 0x04C11DB7#32, 0xFFFFFFFF#32, 0xFFFFFFFF#32, 0#32, 0xFFFFFFFF#32, 0#32, 0#32,
      0#32].map (fun v => some [v]) := by decide +kernel -- V-REG-1 to 5, V-MEM-8

/-- A machine with another value in each register that a read shows. -/
def labelled : State :=
  { idle with
    chunkSize := 0x10#32, fileSize := 0x14#32, crcAcc := 0x9B63D02C#32
    res := {
      chunkIdx := 0x30#32, retryCnt := 0x34#8, numFull := 0x38#32, remSize := 0x3C#32, rxFileSize := 0x40#32
      rxChunkSize := 0x44#32, rxCrcx := 0x48#32, rxPoly := 0x4C#32, rxInitx := 0x50#32, rxHdrCrc := 0x54#32
      rxHdrCalc := 0x58#32, nokTotal := 0x5C#32, errinfo := .retryLimit } }

/-- Each result register is read at its own offset (10_state.md R32), a value equal to that offset. -/
theorem test_result_reads :
    [Instr.rdChunkSize, .rdFileSize, .rdChunkIdx, .rdRetryCnt, .rdNumFull, .rdRemSize, .rdRxFileSize, .rdRxChunkSize,
      .rdRxCrcx, .rdRxPoly, .rdRxInitx, .rdRxHdrCrc, .rdRxHdrCalc, .rdNokTotal].map
        (fun i => (seen lastRead (exec i labelled), encode i)) =
    [0x10#8, 0x14#8, 0x30#8, 0x34#8, 0x38#8, 0x3C#8, 0x40#8, 0x44#8, 0x48#8, 0x4C#8, 0x50#8, 0x54#8, 0x58#8, 0x5C#8].map
        (fun off => (some (some (off.setWidth 32)), Code.bus (busDesc false off 0#32))) := by decide +kernel

theorem test_rd_crc_out : seen lastRead (exec .rdCrcOut labelled) = some (some 0xCBF43926#32) := by
  decide +kernel -- V-CRC-40

theorem test_rd_crc_out_unreflected :
    seen lastRead (exec .rdCrcOut { labelled with ctrl := 0#4 }) = some (some 0x649C2FD3#32) := by
  decide +kernel -- V-CRC-41

theorem test_rd_small_registers :
    seen lastRead (exec .rdRetrycount idle) = some (some 3#32) ∧
    seen lastRead (exec .rdErrinfo labelled) = some (some 0x31#32) ∧
    seen lastRead (exec (.rdName 0#4) idle) = some (some 0x78742E61#32) ∧
    seen lastRead (exec (.rdUnmapped 0x64#8) idle) = some (some 0#32) := by decide +kernel -- V-MEM-5, V-MEM-7

/-! ### The step, the ports and the reset -/

theorem test_step_runs_a_placed_access :
    seen lastRead (step (State.reset.withFetchWord 48 0x02800000000)) = some (some 0xFFFFFFFF#32) ∧
    seen State.crcInit (step (State.reset.withFetchWord 48 0x11C00000007)) = some 7#32 := by decide +kernel

theorem test_step_runs_a_placed_control_byte :
    seen (fun t => (t.pos, t.rxq)) (step (State.reset.withFetchWord 8 0x02)) = some (.rEchoBot, []) ∧
    seen (fun t => (t.pos, t.rxq)) (step (State.reset.withFetchWord 8 0x07)) = some (.rAwaitBot, []) := by
  decide +kernel

theorem test_misaligned_access_is_refused :
    refusal (step { idle with agenda := [.access ⟨false, 0x29, 4, 0#32⟩] }) = some .accessNotAdmitted ∧
    refusal (step { idle with agenda := [.access ⟨false, 0x28, 2, 0#32⟩] }) = some .accessNotAdmitted ∧
    refusal (step { idle with agenda := [.access ⟨false, 0x100, 4, 0#32⟩] }) = some .accessNotAdmitted := by
  decide +kernel -- 20_memory.md R82

theorem test_chunk_in_buf :
    let s := { sending .sLoadAns with pending := some (.srcRead 0#32 4#32), answer := some (.data hell) }
    seen (fun t => (t.pos, t.buf.readRange 0 8)) (step s) =
      some (.sDiscard, hell ++ [0xE3#8, 0x00#8, 0x86#8, 0x1C#8]) := by decide +kernel -- R204

theorem test_receiver_reports_the_header :
    let s := receiving (.rHeader 87)
    let t := { s with hbuf := s.hbuf.writeRange 0 (headerWire.take 87), rxq := [0x84#8] }
    seen (fun u => (u.pos, u.res.rxHdrCrc, u.res.rxHdrCalc, u.name[0])) (step t) =
      some (.rOpen, 0x846608D0#32, 0x846608D0#32, 0x78742E61#32) := by decide +kernel -- R242

theorem test_receiver_verdict :
    let s := receiving .rSendVerdict
    seen (fun t => (t.pos, t.txq, t.res.retryCnt)) (step s) = some (.rSendEot, [8#8], 1#8) ∧
    seen (fun t => (t.pos, t.txq)) (step { s with sess := { s.sess with ok := true } }) = some (.rCommit, [7#8]) := by
  decide +kernel -- V-CB-7, V-CB-8

theorem test_reset_keeps_the_link :
    seen (fun t => (t.statusWord, t.rxq, t.retrycount))
      (step { sending .sWaitSync with rxq := [4#8], agenda := [.reset] }) = some (0#32, [4#8], 3#8) := by
  decide +kernel -- 70_reset_and_hazards.md R370, R372

theorem test_pseudo_instructions :
    (setName fileName).take 2 = [.wr 0x80#8 0x78742E61#32, .wr 0x84#8 0x74#32] ∧ (setName fileName).length = 16 ∧
    (crcBytes [0x31#8]).flatMap (HostLine.accesses 1) = [⟨true, 0x04, 4, 3#32⟩, ⟨true, 0x24, 4, 0x31#32⟩] ∧
    waitDone.accesses 2 = [⟨false, 0x08, 4, 0#32⟩, ⟨false, 0x08, 4, 0#32⟩] ∧
    pollStops 3#32 2#32 0x102#32 = true ∧ pollStops 3#32 2#32 0x50001#32 = false := by decide +kernel -- R122, R123

/-! ### Witnesses: states and operands that meet the premises of the statements, clause by clause -/

/-- The instructions whose operands the table restricts, at the ends of their ranges. -/
theorem witness_DecodeEncodeAgree :
    ∀ i ∈ [Instr.ctrlOther 0x00#8, .ctrlOther 0x09#8, .ctrlOther 0xFF#8, .cmdReserved 0#32, .cmdReserved 4#32,
      .cmdReserved 0xFFFFFFFF#32, .wrIgnored 0x28#8 1#32, .wrIgnored 0x7C#8 1#32, .wrIgnored 0xC0#8 1#32,
      .wrIgnored 0xFC#8 1#32, .rdUnmapped 0x64#8, .rdUnmapped 0x7C#8, .rdUnmapped 0xC0#8, .rdUnmapped 0xFC#8,
      .rdName 15#4, .sok, .send], i.WellFormed = true := by decide +kernel

/-- A control byte, a write, and a read whose DATA bits are not 0. -/
theorem witness_EncodeDecodeAgree :
    decode (.ctrl8 0x09#8) = .ok (.ctrlOther 0x09#8) ∧ decode (.bus 0x12400000131#41) = .ok (.crcUpdate 0x131#32) ∧
    decode (.bus 0x028FFFFFFFF#41) = .ok .rdCrcAcc := by decide +kernel

theorem witness_HostAccessAdmission :
    (∀ a ∈ [(⟨true, 0x00, 4, 1#32⟩ : HostAccess), ⟨false, 0xFC, 4, 0#32⟩],
      a.size = 4 ∧ a.offset % 4 = 0 ∧ a.offset < 0x100) ∧
    (∀ a ∈ [(⟨true, 0x01, 4, 1#32⟩ : HostAccess), ⟨false, 0x100, 4, 0#32⟩, ⟨false, 0x08, 2, 0#32⟩],
      ¬ (a.size = 4 ∧ a.offset % 4 = 0 ∧ a.offset < 0x100)) := by decide +kernel

theorem witness_StepRunsTheDecodedInstruction :
    (let a := readAccess 0x28#8
     let s : State := { idle with agenda := [.access a, .block] }
     s.agenda = .access a :: [.block] ∧ a.admitted = true ∧ decode a.code = .ok .rdCrcAcc) ∧
    (∀ agenda ∈ [[], [Turn.block]],
      let s : State := { sending .sWaitVerdict with rxq := [7#8], agenda := agenda }
      s.nextTurn = .block ∧ s.pos.handshakeWait = true ∧ s.rxq = 7#8 :: [] ∧ decode (.ctrl8 7#8) = .ok .sok) := by
  decide +kernel

/-- The positions at which the control bytes act, and one where they do not. -/
theorem witness_BotAndSyncEndTheirWaits :
    (sending .sAwaitPeer).pos = .sAwaitPeer ∧ (sending .sAwaitPeer).hbuf.wf = true ∧
    (receiving .rAwaitBot).pos = .rAwaitBot ∧ (sending .sWaitSync).pos = .sWaitSync ∧
    (receiving .rWaitSync).pos = .rWaitSync ∧
    (sending .sWaitVerdict).pos ≠ .sAwaitPeer ∧ (sending .sWaitVerdict).pos ≠ .rAwaitBot ∧
    (sending .sWaitVerdict).pos ≠ .sWaitSync ∧ (sending .sWaitVerdict).pos ≠ .rWaitSync := by decide +kernel

/-- The sender at the verdict wait of chunk `i` with `n` failed attempts. -/
def atVerdict (i : Word) (n : BitVec 8) (rc : BitVec 8) (strict : Bool) : State :=
  let s := sending .sWaitVerdict
  { s with
    retrycount := rc
    sess := { s.sess with rc := rc, rstrict := strict }
    res := { s.res with chunkIdx := i, retryCnt := n } }

theorem witness_SokAdvancesTheSender :
    (let s := atVerdict 0#32 0#8 3#8 false
     s.pos = .sWaitVerdict ∧ s.res.chunkIdx < s.res.numFull) ∧
    (let s := atVerdict 1#32 0#8 3#8 false
     s.pos = .sWaitVerdict ∧ ¬ s.res.chunkIdx < s.res.numFull) ∧
    (sending .sWaitSync).pos ≠ .sWaitVerdict := by decide +kernel

theorem witness_NokRetriesOrExhausts :
    (∀ s ∈ [atVerdict 0#32 0#8 2#8 false, atVerdict 0#32 1#8 3#8 true],
      s.pos = .sWaitVerdict ∧ s.sess.dir = .send ∧ s.res.retryCnt.toNat < s.sess.rc.toNat ∧
      s.res.retryCnt.toNat + 1 < s.sess.rc.toNat) ∧
    (∀ s ∈ [atVerdict 0#32 0#8 1#8 true, atVerdict 1#32 254#8 255#8 true, atVerdict 0#32 0#8 1#8 false,
        atVerdict 1#32 254#8 255#8 false],
      s.pos = .sWaitVerdict ∧ s.sess.dir = .send ∧ s.res.retryCnt.toNat < s.sess.rc.toNat ∧
      s.res.retryCnt.toNat + 1 = s.sess.rc.toNat) ∧
    (atVerdict 0#32 0#8 1#8 true).sess.rstrict = true ∧
    (let s := atVerdict 0#32 0#8 1#8 false
     s.sess.rstrict = false ∧ s.res.chunkIdx.toNat < s.res.numFull.toNat) ∧
    (let s := atVerdict 1#32 254#8 255#8 false
     s.sess.rstrict = false ∧ s.res.numFull.toNat ≤ s.res.chunkIdx.toNat) ∧
    (sending .sWaitSync).pos ≠ .sWaitVerdict := by decide +kernel

/-- Each wait with a byte it does not expect. -/
theorem witness_UnexpectedBytesAreDiscarded :
    ∀ x ∈ [(Pos.sAwaitPeer, 4#8), (.sWaitSync, 7#8), (.sWaitVerdict, 6#8), (.rAwaitBot, 0#8), (.rWaitSync, 0xFF#8)],
      let s : State := { idle with pos := x.1, rxq := [x.2] }
      s.pos.handshakeWait = true ∧ s.rxq = x.2 :: [] ∧ s.pos.expects x.2 = false := by decide +kernel

/-- The idle machine with FILE_SIZE `fs` and CHUNK_SIZE `cs`. -/
def sized (fs cs : Word) : State := { idle with fileSize := fs, chunkSize := cs }

theorem witness_SendCommand :
    (sending .sLoad).busy = true ∧
    (let s : State := { idle with fileSize := 0x80000000#32 }
     s.busy = false ∧ 0x7FFFFFFF < s.fileSize.toNat) ∧
    (∀ s ∈ [sized 0x7FFFFFFF#32 4#32, sized 0#32 65#32],
      s.busy = false ∧ s.fileSize.toNat ≤ 0x7FFFFFFF ∧
      (s.chunkSize.toNat < 5 ∨ s.params.chunkBufSize < s.chunkSize.toNat)) ∧
    (∀ s ∈ [sized 0x7FFFFFFF#32 5#32, sized 0x7FFFFFFF#32 64#32],
      s.busy = false ∧ s.fileSize.toNat ≤ 0x7FFFFFFF ∧ 5 ≤ s.chunkSize.toNat ∧
      s.chunkSize.toNat ≤ s.params.chunkBufSize ∧ s.retrycount ≠ 0#8 ∧ 0#8 ∈ nameBytes s.name) ∧
    (let s : State := { idle with name := Vector.replicate 16 0x41414141#32 }
     s.busy = false ∧ s.fileSize.toNat ≤ 0x7FFFFFFF ∧ 5 ≤ s.chunkSize.toNat ∧
     s.chunkSize.toNat ≤ s.params.chunkBufSize ∧ s.retrycount ≠ 0#8 ∧ 0#8 ∉ nameBytes s.name) ∧
    (let s : State := { idle with retrycount := 0#8 }
     s.busy = false ∧ s.fileSize.toNat ≤ 0x7FFFFFFF ∧ 5 ≤ s.chunkSize.toNat ∧
     s.chunkSize.toNat ≤ s.params.chunkBufSize ∧ s.retrycount = 0#8) := by decide +kernel

theorem witness_ReceiveCommand :
    (receiving .rAwaitBot).busy = true ∧ idle.busy = false ∧ idle.retrycount ≠ 0#8 ∧
    ({ idle with retrycount := 0#8 } : State).retrycount = 0#8 := by decide +kernel

theorem witness_ReservedCommandSetsWerr :
    ∀ i ∈ [Instr.cmdReserved 0#32, .cmdReserved 4#32, .cmdReserved 0xFFFFFFFF#32],
      ∃ data, i = .cmdReserved data ∧ data ≠ 1#32 ∧ data ≠ 2#32 ∧ data ≠ 3#32 := by simp

theorem witness_CrcUpdateStepsTheAccumulator :
    ({ idle with crcPoly := 0#32 } : State).crcPoly = 0#32 ∧
    idle.crcPoly = 0x04C11DB7#32 ∧ idle.ctrl.getLsbD 2 = true ∧ idle.crcAcc = 0xFFFFFFFF#32 ∧
    (0x00000131#32 : Word).extractLsb' 0 8 = 0x31#8 := by decide +kernel

/-- The idle machine of the register writes. -/
theorem witness_IdleRegisterWritesStore : idle.busy = false := by decide +kernel

theorem witness_BusyLock :
    ((sending .sLoad).busy = true ∧ ∃ data k, Instr.wrName 15#4 7#32 = .wrName k data) ∧
    (idle.busy = false ∧ exec (.wrStatus 6#32) idle = .next idle) ∧
    (let s : State := { idle with werr := true, agenda := [.access (writeAccess 0x08#8 4#32)] }
     step s = .next { idle with agenda := [] } ∧ s.werr = true ∧ ({ idle with agenda := [] } : State).werr = false) :=
  ⟨⟨rfl, _, _, rfl⟩, ⟨rfl, rfl⟩, rfl, rfl, rfl⟩

theorem witness_IgnoredAndUnmappedAccesses :
    (∀ off ∈ [0x28#8, 0x60#8, 0x64#8, 0x7C#8, 0xC0#8, 0xFC#8],
      off.toNat % 4 = 0 ∧ (0x28 ≤ off.toNat ∧ off.toNat ≤ 0x7C ∨ 0xC0 ≤ off.toNat)) ∧
    (∀ off ∈ [0x64#8, 0x7C#8, 0xC0#8, 0xFC#8],
      off.toNat % 4 = 0 ∧ (0x64 ≤ off.toNat ∧ off.toNat ≤ 0x7C ∨ 0xC0 ≤ off.toNat)) := by decide

/-- Words that agree on the bits not reserved and differ elsewhere; the aligned offsets of the last clauses are those
of `witness_IgnoredAndUnmappedAccesses`. -/
theorem witness_StatusFieldsAndReservedBits :
    (0xFFFFFFF3#32 &&& 0xF#32 : Word) = 0x3#32 &&& 0xF#32 ∧ (0x105#32 &&& 0xFF#32 : Word) = 0x5#32 &&& 0xFF#32 ∧
    (0xFFE0F0F6#32 &&& 0x1F0F0F#32 : Word) = 0x6#32 &&& 0x1F0F0F#32 := by decide

theorem witness_ReadsChangeNothing : (0x00#8).toNat % 4 = 0 ∧ (0xFC#8).toNat % 4 = 0 := by decide

theorem witness_NameBufferLanes : 0 < 64 ∧ 63 < 64 ∧ (nameField fileName).length = 64 := by decide

/-- A step of the block that transmits, the premise of the statements about every step. -/
theorem witness_TransmittedBytes :
    let s := sending .sSendBot
    step s = .next { s with txq := [2#8], pos := .sAwaitPeer } := rfl

/-- One step of each kind of turn. -/
theorem witness_ReceiveQueueOrder :
    (∀ turn ∈ [Turn.block, .deliver 7#8, .access (readAccess 0#8), .reset],
      (seen State.rxq (step { idle with agenda := [turn] })).isSome = true) ∧
    (seen State.rxq (step { sending .sLoadAns with
      pending := some (.srcRead 0#32 4#32), agenda := [.answer .ioErr] })).isSome = true := by decide +kernel

theorem witness_HoldsChangeNothing :
    idle.pos = .idle ∧ (receiving (.rHeader 0)).rxq = [] ∧ (receiving (.rHeader 0)).pos = .rHeader 0 ∧
    (receiving (.rChunk 7)).pos = .rChunk 7 ∧ (sending .sWaitVerdict).rxq = [] ∧
    (sending .sLoadAns).answer = none ∧ (receiving (.rCloseAns .finish)).pos = .rCloseAns .finish := by decide +kernel

theorem witness_HostAnswersAdmitted :
    (let s : State := { sending .sLoadAns with pending := some (.srcRead 0#32 4#32) }
     s.pending = some (.srcRead 0#32 4#32) ∧ s.answer = none ∧ hell.length = (4#32 : Word).toNat ∧
     fileName.length ≠ (4#32 : Word).toNat) ∧
    (let s : State := { sending (.sCloseAns .finish) with pending := some .srcClose }
     s.pending = some .srcClose ∧ s.answer = none) ∧
    (let s : State := { receiving .rOpenAns with pending := some (.sinkOpen fileName) }
     s.pending = some (.sinkOpen fileName) ∧ s.answer = none) ∧
    (let s : State := { receiving .rCommitAns with pending := some (.sinkAppend hell) }
     s.pending = some (.sinkAppend hell) ∧ s.answer = none) ∧ idle.pending = none := by decide +kernel

/-! #### Sessions -/

theorem witness_SenderOpensTheSession :
    let s : State := { sending .sSendBot with rxq := [1#8, 0xFF#8] ++ 2#8 :: [4#8] }
    s.pos = .sSendBot ∧ s.agenda = [] ∧ s.hbuf.wf = true ∧ 2#8 ∉ [1#8, 0xFF#8] ∧ s.rxq = [1#8, 0xFF#8] ++ 2#8 :: [4#8] ∧
    (sending .sSendBot).rxq = [] := by decide +kernel

theorem witness_SenderSendsTheHeader :
    let s : State := { sending .sAwaitPeer with rxq := [2#8, 4#8] }
    s.pos = .sAwaitPeer ∧ s.agenda = [] ∧ s.rxq = 2#8 :: [4#8] ∧ s.hbuf.wf = true := by decide +kernel

theorem witness_SenderLoadsTheChunk :
    (let s : State := { sending .sLoad with agenda := [.block, .answer (.data hell), .block] }
     s.pos = .sLoad ∧ s.answer = none ∧ s.agenda = [.block, .answer (.data hell), .block] ++ [] ∧
     hell.length = s.sess.len.toNat ∧ s.sess.len.toNat + 4 ≤ s.params.chunkBufSize ∧ s.buf.wf = true) ∧
    (let s : State := { sending .sLoad with agenda := [.block, .answer .ioErr, .block] }
     s.pos = .sLoad ∧ s.answer = none ∧ s.agenda = [.block, .answer .ioErr, .block] ++ [] ∧
     s.sess.dir = .send) := by decide +kernel

theorem witness_SenderTransmitsTheChunkAsOneUnit :
    let s := sending .sDiscard
    s.pos = .sDiscard ∧ s.agenda = [] ∧ s.sess.len.toNat + 4 ≤ s.params.chunkBufSize ∧
    0 ≤ s.sess.len.toNat + 3 ∧ 7 ≤ s.sess.len.toNat + 3 := by decide +kernel

theorem witness_SenderEchoesSync :
    let s : State := { sending .sWaitSync with rxq := [7#8] ++ 4#8 :: [] }
    s.pos = .sWaitSync ∧ s.agenda = [] ∧ 4#8 ∉ [7#8] ∧ s.rxq = [7#8] ++ 4#8 :: [] ∧
    (sending .sWaitSync).rxq = [] := by decide +kernel

theorem witness_SenderAwaitsTheVerdict :
    ∀ verdict ∈ [7#8, 8#8],
      let s : State := { sending .sWaitVerdict with rxq := [4#8, 6#8] ++ verdict :: [] }
      s.pos = .sWaitVerdict ∧ s.agenda = [] ∧ 7#8 ∉ [4#8, 6#8] ∧ 8#8 ∉ [4#8, 6#8] ∧
      s.rxq = [4#8, 6#8] ++ verdict :: [] ∧ ({ s with rxq := [4#8, 6#8] } : State).rxq = [4#8, 6#8] := by decide +kernel

/-- A step that ends in each of the positions the statement speaks of. -/
theorem witness_ChunksGoOneAtATime :
    seen State.pos (step { sending .sWaitVerdict with rxq := [8#8] }) = some .sDiscard ∧
    seen State.pos (step (sending .sLoad)) = some .sLoadAns ∧
    seen State.pos (step (sending (.sHeader 87))) = some .sLoad ∧
    seen State.pos (step (sending .sDiscard)) = some (.sChunk 0) ∧
    seen State.pos (step (sending (.sChunk 6))) = some (.sChunk 7) := by decide +kernel

theorem witness_ReceiverOpensTheSession :
    let s : State := { receiving .rAwaitBot with rxq := [0#8] ++ 2#8 :: [2#8] }
    s.pos = .rAwaitBot ∧ s.agenda = [] ∧ 2#8 ∉ [0#8] ∧ s.rxq = [0#8] ++ 2#8 :: [2#8] ∧
    (receiving .rAwaitBot).rxq = [] := by decide +kernel

theorem witness_ReceiverReadsTheHeader :
    (∀ h ∈ [headerWire, headerWire.set 3 0x80#8],
      let s : State := { receiving (.rHeader 0) with rxq := h ++ [4#8] }
      s.pos = .rHeader 0 ∧ s.agenda = [] ∧ s.hbuf.wf = true ∧ s.sess.dir = .receive ∧ s.sinkOpened = false ∧
      h.length = 88 ∧ s.rxq = h ++ [4#8]) ∧
    ({ receiving (.rHeader 0) with rxq := headerWire.take 87 } : State).rxq.length < 88 ∧
    (∀ k ∈ [0, 86, 87],
      let s : State := { receiving (.rHeader k) with rxq := [0x84#8, 4#8] }
      s.hbuf.wf = true ∧ s.sess.dir = .receive ∧ s.sinkOpened = false ∧ s.pos = .rHeader k ∧
      s.rxq = 0x84#8 :: [4#8] ∧ (if k = 87 then k + 1 = 88 else k + 1 < 88)) := by decide +kernel

/-- Every outcome of the header checks, and the boundary values of the two sizes. -/
theorem witness_HeaderChecksInOrder :
    headerWire.length = 88 ∧ (fromLe32 (headerWire.set 3 0x80#8) 0).toInt < 0 ∧
    0 ≤ (fromLe32 headerWire 0).toInt ∧ 0 ≤ (fromLe32 ([0xFF#8, 0xFF#8, 0xFF#8, 0x7F#8] ++ headerWire.drop 4) 0).toInt ∧
    (fromLe32 (headerWire.set 4 4#8) 4).toInt < 5 ∧ ((7 : Nat) : Int) < (fromLe32 headerWire 4).toInt ∧
    5 ≤ (fromLe32 (headerWire.set 4 5#8) 4).toInt ∧ (fromLe32 headerWire 4).toInt ≤ ((8 : Nat) : Int) ∧
    0#8 ∉ slice (headerWire.take 12 ++ List.replicate 64 0x41#8 ++ headerWire.drop 76) 12 76 ∧
    0#8 ∈ slice headerWire 12 76 ∧
    checksum idle.cfgNow ((headerWire.set 84 0xD1#8).take 84) ≠ fromLe32 (headerWire.set 84 0xD1#8) 84 ∧
    checksum idle.cfgNow (headerWire.take 84) = fromLe32 headerWire 84 := by decide +kernel

theorem witness_ReceiverOpensTheFile :
    (let s : State := { receiving .rOpen with agenda := [.block, .answer .ack, .block] }
     s.pos = .rOpen ∧ s.answer = none ∧ s.agenda = [.block, .answer .ack, .block] ++ []) ∧
    (let s : State := { receiving .rOpen with agenda := [.block, .answer .ioErr, .block] }
     s.pos = .rOpen ∧ s.answer = none ∧ s.agenda = [.block, .answer .ioErr, .block] ++ [] ∧
     s.sess.dir = .receive ∧ s.sinkOpened = false) := by decide +kernel

theorem witness_ReceiverReadsTheChunk :
    let trailer := [0xE3#8, 0x00#8, 0x86#8, 0x1C#8]
    (let s : State := { receiving .rSendEot with rxq := hell ++ trailer ++ [4#8] }
     s.pos = .rSendEot ∧ s.agenda = [] ∧ s.buf.wf = true ∧ s.sess.len.toNat + 4 ≤ s.params.chunkBufSize ∧
     hell.length = s.sess.len.toNat ∧ trailer.length = 4 ∧ s.rxq = hell ++ trailer ++ [4#8]) ∧
    (let s : State := { receiving .rSendEot with rxq := hell ++ trailer.take 3 }
     s.rxq.length < s.sess.len.toNat + 4) ∧
    (∀ k ∈ [0, 6, 7],
      let s : State := { receiving (.rChunk k) with rxq := [0x1C#8, 4#8] }
      s.pos = .rChunk k ∧ s.rxq = 0x1C#8 :: [4#8] ∧ s.buf.wf = true ∧
      s.sess.len.toNat + 4 ≤ s.params.chunkBufSize ∧
      (if k = 7 then k + 1 = s.sess.len.toNat + 4 else k + 1 < s.sess.len.toNat + 4)) := by decide +kernel

theorem witness_ReceiverHoldsTheBarrier :
    let s : State := { receiving .rSendSync with rxq := [7#8, 8#8, 2#8] ++ 4#8 :: [] }
    s.pos = .rSendSync ∧ s.agenda = [] ∧ 4#8 ∉ [7#8, 8#8, 2#8] ∧ s.rxq = [7#8, 8#8, 2#8] ++ 4#8 :: [] ∧
    (receiving .rSendSync).rxq = [] := by decide +kernel

/-- The receiver before its verdict. -/
def beforeVerdict (n rc : BitVec 8) (ok strict : Bool) : State :=
  let s := receiving .rSendVerdict
  { s with sess := { s.sess with rc := rc, ok := ok, rstrict := strict }, res := { s.res with retryCnt := n } }

theorem witness_ReceiverVerdict :
    (beforeVerdict 0#8 3#8 true false).pos = .rSendVerdict ∧ (beforeVerdict 0#8 3#8 true false).sess.ok = true ∧
    (let s := beforeVerdict 1#8 3#8 false true
     s.sess.ok = false ∧ s.sess.dir = .receive ∧ s.sinkOpened = true ∧ s.res.retryCnt.toNat < s.sess.rc.toNat ∧
     s.res.retryCnt.toNat + 1 < s.sess.rc.toNat) ∧
    (∀ strict ∈ [true, false], ∀ rc ∈ [1#8, 255#8],
      let s := beforeVerdict (rc - 1#8) rc false strict
      s.sess.ok = false ∧ s.sess.dir = .receive ∧ s.sinkOpened = true ∧ s.res.retryCnt.toNat < s.sess.rc.toNat ∧
      s.res.retryCnt.toNat + 1 = s.sess.rc.toNat ∧ s.sess.rstrict = strict) := by decide +kernel

/-- The receiver at the commit of chunk `i`, the append acknowledged next. -/
def atCommit (i : Word) : State :=
  let s := receiving .rCommit
  { s with agenda := [.block, .answer .ack, .block], res := { s.res with chunkIdx := i } }

theorem witness_ReceiverCommits :
    (∀ s ∈ [atCommit 0#32, atCommit 1#32],
      s.pos = .rCommit ∧ s.answer = none ∧ s.sess.len.toNat + 4 ≤ s.params.chunkBufSize ∧
      s.agenda = [.block, .answer .ack, .block] ++ []) ∧
    (atCommit 0#32).res.chunkIdx.toNat < (atCommit 0#32).res.numFull.toNat ∧
    (atCommit 1#32).res.numFull.toNat ≤ (atCommit 1#32).res.chunkIdx.toNat ∧
    (let s : State := { receiving .rCommit with agenda := [.block, .answer .ioErr, .block] }
     s.agenda = [.block, .answer .ioErr, .block] ++ [] ∧ s.sess.dir = .receive ∧ s.sinkOpened = true) := by
  decide +kernel

theorem witness_SessionsEnd :
    (sending .sLoadAns).sess.dir = .send ∧
    ((receiving .rCommitAns).sess.dir = .receive ∧ (receiving .rCommitAns).sinkOpened = true) ∧
    ((receiving (.rHeader 87)).sess.dir = .receive ∧ (receiving (.rHeader 87)).sinkOpened = false) ∧
    (∀ e ∈ [Ending.finish, .raised .retryExhausted .retryLimit], ∀ p ∈ [Pos.sClose e, .rClose e],
      let s : State := { idle with pos := p, agenda := [.block, .answer .ack, .block] }
      (s.pos = .sClose e ∨ s.pos = .rClose e) ∧ s.answer = none ∧
      s.agenda = [.block, .answer .ack, .block] ++ []) := by decide +kernel

theorem witness_ResetTurn : ({ sending .sLoadAns with agenda := [.reset] } : State).agenda = .reset :: [] := rfl

/-! #### The invariant and the statements about every step -/

/-- The idle machine satisfies the invariant. -/
theorem idle_inv : idle.Inv where
  memory := by decide +kernel
  busy := by decide +kernel
  outcome := ⟨by decide +kernel, by decide +kernel, by decide +kernel, trivial⟩
  snapshot := by decide +kernel
  phase := by decide +kernel
  sizes := by decide +kernel
  chunk := ⟨by decide +kernel, trivial⟩
  retry := by decide +kernel
  port := ⟨rfl, trivial⟩
  sink := trivial

/-- A sender whose close has been answered. -/
def senderClosing : State :=
  let s := sending (.sCloseAns .finish)
  { s with res := { s.res with chunkIdx := 1#32 }, pending := some .srcClose, answer := some .ack }

/-- A receiver whose close has been answered, 5 bytes in its file. -/
def receiverClosing : State :=
  let s := receiving (.rCloseAns .finish)
  { s with
    res := { s.res with chunkIdx := 1#32 }, pending := some .sinkClose, answer := some .ack
    sinkFile := hell ++ [0x6F#8] }

theorem senderClosing_inv : senderClosing.Inv where
  memory := by decide +kernel
  busy := by decide +kernel
  outcome := ⟨by decide +kernel, by decide +kernel, by decide +kernel, rfl⟩
  snapshot := by decide +kernel
  phase := by decide +kernel
  sizes := by decide +kernel
  chunk := ⟨by decide +kernel, rfl⟩
  retry := by decide +kernel
  port := ⟨rfl, rfl⟩
  sink := trivial

theorem receiverClosing_inv : receiverClosing.Inv where
  memory := by decide +kernel
  busy := by decide +kernel
  outcome := ⟨by decide +kernel, by decide +kernel, by decide +kernel, rfl⟩
  snapshot := by decide +kernel
  phase := by decide +kernel
  sizes := by decide +kernel
  chunk := ⟨by decide +kernel, rfl⟩
  retry := by decide +kernel
  port := ⟨rfl, rfl⟩
  sink := rfl

/-- Both directions end their sessions from a state of the invariant. -/
theorem witness_SuccessMeansEveryChunk :
    senderClosing.Inv ∧ receiverClosing.Inv ∧
    ∀ s ∈ [senderClosing, receiverClosing], s.busy = true ∧
      seen (fun t => (t.busy, t.outcome)) (step s) = some (false, .success) :=
  ⟨senderClosing_inv, receiverClosing_inv, by decide +kernel⟩

/-- A sender of the invariant at the verdict wait of chunk `i`, with `b` received. -/
def verdictFor (i : Word) (b : Byte) : State :=
  let s := sending .sWaitVerdict
  { s with
    rxq := [b], retrycount := 1#8
    sess := { s.sess with rc := 1#8, len := if i = 0#32 then 4#32 else 1#32 }
    res := { s.res with chunkIdx := i } }

theorem verdictFor_first_inv : (verdictFor 0#32 7#8).Inv where
  memory := by decide +kernel
  busy := by decide +kernel
  outcome := ⟨by decide +kernel, by decide +kernel, by decide +kernel, trivial⟩
  snapshot := by decide +kernel
  phase := by decide +kernel
  sizes := by decide +kernel
  chunk := ⟨by decide +kernel, trivial⟩
  retry := by decide +kernel
  port := ⟨rfl, trivial⟩
  sink := trivial

theorem verdictFor_last_inv : (verdictFor 1#32 8#8).Inv where
  memory := by decide +kernel
  busy := by decide +kernel
  outcome := ⟨by decide +kernel, by decide +kernel, by decide +kernel, trivial⟩
  snapshot := by decide +kernel
  phase := by decide +kernel
  sizes := by decide +kernel
  chunk := ⟨by decide +kernel, trivial⟩
  retry := by decide +kernel
  port := ⟨rfl, trivial⟩
  sink := trivial

/-- `ChunkIndexGoesFromZeroToNumFull`: SOK and an exhausting NOK after chunk 0 and after the last chunk, and the first
chunk's start. -/
theorem witness_ChunkIndexGoesFromZeroToNumFull :
    (verdictFor 0#32 7#8).Inv ∧ (verdictFor 1#32 8#8).Inv ∧
    (∀ b ∈ [7#8, 8#8],
      (verdictFor 0#32 b).busy = true ∧ (verdictFor 0#32 b).nextTurn ≠ .reset ∧ (verdictFor 0#32 b).pos.inChunk = true ∧
      seen (fun t => (t.pos, t.res.chunkIdx)) (step (verdictFor 0#32 b)) = some (.sLoad, 1#32) ∧
      seen State.pos (step (verdictFor 1#32 b)) = some (.sClose .finish)) ∧
    (sending (.sHeader 87)).pos.inChunk = false ∧
    seen (fun t => (t.pos.inChunk, t.res.chunkIdx)) (step (sending (.sHeader 87))) = some (true, 0#32) :=
  ⟨verdictFor_first_inv, verdictFor_last_inv, by decide +kernel, by decide +kernel, by decide +kernel⟩

/-- A state of the invariant from which a block step, a delivery and a read answer a next state. -/
theorem witness_InvariantIsKept :
    senderClosing.Inv ∧ step senderClosing = .next { senderClosing with
      pending := none, answer := none, outcome := .success, pos := .idle, busy := false, done := true } :=
  ⟨senderClosing_inv, rfl⟩

/-- `OnlyTheOtherAgentsAreRefused`: the premise, and each of its three cases. -/
theorem witness_OnlyTheOtherAgentsAreRefused :
    idle.Inv ∧ (∃ t, step idle = .next t) ∧
    refusal (step { idle with agenda := [.access ⟨false, 0x101, 4, 0#32⟩] }) = some .accessNotAdmitted ∧
    refusal (step { idle with agenda := [.answer .ack] }) = some .answerWithoutRequest :=
  ⟨idle_inv, ⟨_, rfl⟩, by decide +kernel, by decide +kernel⟩

theorem witness_BusyRisesAndFalls :
    idle.busy = false ∧ seen State.busy (step { idle with agenda := [.access (writeAccess 4#8 1#32)] }) = some true ∧
    senderClosing.busy = true ∧ seen State.busy (step senderClosing) = some false ∧
    seen State.busy (step { senderClosing with agenda := [.reset] }) = some false := by decide +kernel

theorem witness_CrcAccIsTheHostChannelsAlone :
    seen State.crcAcc (step { labelled with agenda := [.access (writeAccess 0x24#8 0x31#32)] }) ≠ some labelled.crcAcc ∧
    seen State.crcAcc (step { labelled with agenda := [.access (writeAccess 0x04#8 3#32)] }) = some 0xFFFFFFFF#32 ∧
    seen State.crcAcc (step { labelled with agenda := [.reset] }) = some 0xFFFFFFFF#32 := by decide +kernel

theorem witness_HostAccessesDoNotDisturbASession :
    (sending .sLoad).busy = true ∧
    hostAccess (writeAccess 0x10#8 0x10#32) (sending .sLoad) = .next { sending .sLoad with werr := true } := ⟨rfl, rfl⟩

theorem witness_ConfigurationIsLockedWhileBusy :
    let s := sending .sSendBot
    step s = .next { s with txq := [2#8], pos := .sAwaitPeer } ∧ s.busy = true ∧ s.nextTurn ≠ .reset ∧
    s.pos.ofSender = true := ⟨rfl, rfl, by decide +kernel, rfl⟩

theorem witness_ResultsStayAfterTheSession :
    let s : State := { idle with agenda := [.access (writeAccess 0x08#8 2#32)] }
    idle.Inv ∧ idle.busy = false ∧ step idle = .next idle ∧ idle.nextTurn ≠ .reset ∧
    idle.nextTurn.instr ≠ some .send ∧ s.nextTurn.instr ≠ some .send ∧ s.nextTurn.instr ≠ some .receive :=
  ⟨idle_inv, rfl, rfl, by decide +kernel, by decide +kernel, by decide +kernel, by decide +kernel⟩

/-! #### CRC and header -/

theorem witness_CrcFoldsAndReflects :
    let cfg := idle.cfgNow
    let plain : CrcCfg := { cfg with init := 0#32, refin := false, refout := false }
    plain.poly = cfg.poly ∧ cfg.refin = true ∧ plain.refin = false ∧ cfg.refout = true ∧ plain.refout = false ∧
    ({ cfg with init := 0#32 } : CrcCfg).refin = cfg.refin := by decide +kernel

theorem witness_SingleByteChangeIsDetected : idle.cfgNow.poly = 0x04C11DB7#32 ∧ (0x68#8 : Byte) ≠ 0x69#8 := by
  decide +kernel

/-- With no byte and with one. -/
theorem witness_HostChannelComputesTheChecksum :
    ∀ bytes ∈ [[], [0x31#8]],
      let turns := accessTurns (writeAccess 0x04#8 3#32 ::
        (bytes.map (fun b => writeAccess 0x24#8 (b.setWidth 32)) ++ [readAccess 0x2C#8]))
      ({ sending .sLoad with agenda := turns ++ [.block] } : State).agenda = turns ++ [.block] := by decide +kernel

theorem witness_HeaderLayout : header.fileName.length ≤ 63 ∧ (List.replicate 63 0x41#8).length ≤ 63 := by decide +kernel

/-- A valid header; 88 bytes with a byte after the name's NUL that decode to one; and 88 bytes with none under strict
checks. -/
theorem witness_HeaderRoundTrip :
    header.Valid 64 idle.cfgNow ∧ headerWire.length = 88 ∧
    decodeHeader 64 idle.cfgNow false (headerWire.set 75 0x41#8) = .ok header ∧
    decodeHeader 64 idle.cfgNow true headerWire = .ok header ∧
    (∀ i : Nat, 12 + header.fileName.length ≤ i → i < 76 → headerWire[i]? = some 0#8) :=
  ⟨⟨by decide +kernel, by decide +kernel, by decide +kernel, by decide +kernel, by decide +kernel, by decide +kernel⟩,
    by decide +kernel, by decide +kernel, by decide +kernel, fun i h h' =>
      (show ∀ i : Nat, i < 76 → 17 ≤ i → headerWire[i]? = some 0#8 by decide +kernel) i h' h⟩

end Sys2Proof.Tests
end

section
/-! SUPPORT. The state invariant of Safety.lean read position by position: what its ten clauses say of a block at rest and
of a running session, and back. -/

namespace Sys2Proof.Machine

/-! ### The invariant read position by position -/

/-- What the invariant says of a running session at every position. -/
def State.Running (s : State) : Prop :=
  s.MemoryOk ∧ s.busy = true ∧ (s.done = false ∧ s.outcome = .noOutcome ∧ s.res.errinfo = .noError) ∧
  s.SnapshotOk ∧ s.res.retryCnt.toNat ≤ s.sess.rc.toNat

/-- The sizes of the session are derived, and a chunk attempt fits in BUF (30_encoding.md R117). -/
def State.SizesFit (s : State) : Prop :=
  5 ≤ s.sess.cs.toNat ∧ s.sess.cs.toNat ≤ s.params.chunkBufSize ∧ s.sess.fs.toNat ≤ 0x7FFFFFFF ∧
  s.sess.p.toNat = s.sess.cs.toNat - 4 ∧
  s.res.numFull.toNat = s.sess.fs.toNat / s.sess.p.toNat ∧
  s.res.remSize.toNat = s.sess.fs.toNat % s.sess.p.toNat

/-- The current chunk is one of the file's, and `len` is its length (R203, R244). -/
def State.ChunkFits (s : State) : Prop :=
  s.res.chunkIdx.toNat ≤ s.res.numFull.toNat ∧
  s.sess.len = if s.res.chunkIdx < s.res.numFull then s.sess.p else s.res.remSize

/-- An attempt at the current chunk runs: one more NOK may be counted (R209, R249). -/
def State.Attempts (s : State) : Prop := s.ChunkFits ∧ s.res.retryCnt.toNat < s.sess.rc.toNat

/-- A sender, whose sizes are known from its start (42_sender.md R200). -/
def State.Sends (s : State) : Prop := s.sess.dir = .send ∧ s.sinkOpened = false ∧ s.SizesFit

/-- A receiver without an open output file. -/
def State.Receives (s : State) : Prop := s.sess.dir = .receive ∧ s.sinkOpened = false

/-- A receiver with its output file open (43_receiver.md R243 to R251). -/
def State.Stores (s : State) : Prop := s.sess.dir = .receive ∧ s.sinkOpened = true ∧ s.SizesFit

/-- No request is at the host. -/
def State.PortFree (s : State) : Prop := s.pending = none ∧ s.answer = none

/-- The request `r` is at the host, and an answer not yet taken is one it admits (20_memory.md R92). -/
def State.Asks (s : State) (r : FileRequest) : Prop :=
  s.pending = some r ∧ ∀ x, s.answer = some x → r.admits x = true

/-- The output file holds the chunks before the current one (R244, R250). -/
def State.FileBeforeChunk (s : State) : Prop := s.sinkFile.length = s.res.chunkIdx.toNat * s.sess.p.toNat

/-- The session may close with the ending `e`. -/
def State.Ends (s : State) (e : Ending) : Prop :=
  e.fits s.exhausted = true ∧ (e = .finish → s.res.chunkIdx = s.res.numFull)

/-- The output file is whole where a receiver is about to finish (R252). -/
def State.FileWhole (s : State) (e : Ending) : Prop := e = .finish → s.sinkFile.length = s.sess.fs.toNat

/-- What the invariant says of a running session at the position `p`. -/
def State.At (s : State) : Pos → Prop
  | .idle => False
  | .sSendBot | .sAwaitPeer => s.Sends ∧ s.PortFree
  | .sHeader k => s.Sends ∧ s.PortFree ∧ k < hdrSize
  | .sLoad | .sDiscard | .sWaitSync | .sEchoSync | .sWaitVerdict => s.Sends ∧ s.PortFree ∧ s.Attempts
  | .sLoadAns => s.Sends ∧ s.Asks (.srcRead (s.res.chunkIdx * s.sess.p) s.sess.len) ∧ s.Attempts
  | .sChunk k => s.Sends ∧ s.PortFree ∧ s.Attempts ∧ k < s.chunkBytes
  | .sClose e => s.Sends ∧ s.PortFree ∧ s.Ends e
  | .sCloseAns e => s.Sends ∧ s.Asks .srcClose ∧ s.Ends e
  | .rAwaitBot | .rEchoBot => s.Receives ∧ s.PortFree
  | .rHeader k => s.Receives ∧ s.PortFree ∧ k < hdrSize
  | .rOpen => s.Receives ∧ s.PortFree ∧ s.SizesFit
  | .rOpenAns =>
    s.Receives ∧ s.Asks (.sinkOpen (untilNul (headerNameField (s.hbuf.readRange 0 hdrSize)))) ∧ s.SizesFit ∧
      (s.answer = some .ack → s.sinkFile = [])
  | .rSendEot | .rSendSync | .rWaitSync | .rSendVerdict => s.Stores ∧ s.PortFree ∧ s.Attempts ∧ s.FileBeforeChunk
  | .rChunk k => s.Stores ∧ s.PortFree ∧ s.Attempts ∧ s.FileBeforeChunk ∧ k < s.chunkBytes
  | .rCommit => s.Stores ∧ s.PortFree ∧ s.ChunkFits ∧ s.FileBeforeChunk
  | .rCommitAns =>
    s.Stores ∧ s.Asks (.sinkAppend (s.buf.readRange 0 s.sess.len.toNat)) ∧ s.ChunkFits ∧
      s.sinkFile.length =
        s.res.chunkIdx.toNat * s.sess.p.toNat + if s.answer = some .ack then s.sess.len.toNat else 0
  | .rClose e => s.Stores ∧ s.PortFree ∧ s.Ends e ∧ s.FileWhole e
  | .rCloseAns e => s.Stores ∧ s.Asks .sinkClose ∧ s.Ends e ∧ s.FileWhole e

/-- What the invariant says of a block at rest. -/
structure State.Resting (s : State) : Prop where
  pos : s.pos = .idle
  memory : s.MemoryOk
  busy : s.busy = false
  fits : detailFits s.outcome s.res.errinfo = true
  success : s.outcome = .success → s.exhausted = false
  exhausted : s.outcome = .successExhausted ∨ s.outcome = .retryExhausted → s.exhausted = true
  closed : s.sinkOpened = false
  portFree : s.PortFree

section FromInv

variable {s : State} (h : s.Inv)
include h

theorem State.Inv.running (hp : s.pos ≠ .idle) : s.Running :=
  have hb := h.busy.1.2 hp
  ⟨h.memory, hb, h.busy.2 hb, h.snapshot, h.retry.1 hb⟩

theorem State.Inv.sizesFit (hp : s.pos.sizesKnown = true) : s.SizesFit := h.sizes hp

theorem State.Inv.chunkFits (hp : s.pos.inChunk = true) : s.ChunkFits := h.chunk.1 hp

theorem State.Inv.attempts (hc : s.pos.inChunk = true) (hp : s.pos.inAttempt = true) : s.Attempts :=
  ⟨h.chunkFits hc, h.retry.2 hp⟩

theorem State.Inv.sends (hp : s.pos.ofSender = true) (ho : s.pos.sinkIsOpen = false) : s.Sends := by
  obtain ⟨hsend, -, hopen⟩ := h.phase
  exact ⟨hsend hp, hopen.trans ho, h.sizesFit (by simp [Pos.sizesKnown, hp])⟩

theorem State.Inv.receives (hp : s.pos.ofReceiver = true) (ho : s.pos.sinkIsOpen = false) : s.Receives := by
  obtain ⟨-, hrecv, hopen⟩ := h.phase
  exact ⟨hrecv hp, hopen.trans ho⟩

theorem State.Inv.stores (hp : s.pos.ofReceiver = true) (ho : s.pos.sinkIsOpen = true) : s.Stores := by
  obtain ⟨-, hrecv, hopen⟩ := h.phase
  exact ⟨hrecv hp, hopen.trans ho, h.sizesFit (by simp [Pos.sizesKnown, ho])⟩

theorem State.Inv.portFree (hq : s.pending = none) : s.PortFree := by
  obtain ⟨-, hans⟩ := h.port
  refine ⟨hq, ?_⟩
  cases ha : s.answer with
  | none => rfl
  | some x => simp [ha, hq] at hans

theorem State.Inv.asks {r : FileRequest} (hq : s.pending = some r) : s.Asks r := by
  obtain ⟨-, hans⟩ := h.port
  refine ⟨hq, fun x ha => ?_⟩
  simpa [ha, hq] using hans

theorem State.Inv.ends {e : Ending}
    (hp : s.pos = .sClose e ∨ s.pos = .sCloseAns e ∨ s.pos = .rClose e ∨ s.pos = .rCloseAns e) : s.Ends e := by
  obtain ⟨-, -, -, hfits⟩ := h.outcome
  obtain ⟨-, hidx⟩ := h.chunk
  constructor
  · rcases hp with hp | hp | hp | hp <;> simpa only [hp] using hfits
  · rintro rfl
    rcases hp with hp | hp | hp | hp <;> simpa only [hp] using hidx

theorem State.Inv.fileWhole {e : Ending} (hp : s.pos = .rClose e ∨ s.pos = .rCloseAns e) : s.FileWhole e := by
  rintro rfl
  have hfile := h.sink
  rcases hp with hp | hp <;> simpa only [State.SinkOk, hp] using hfile

theorem State.Inv.resting (hb : s.busy = false) : s.Resting := by
  have hp : s.pos = .idle := by
    by_contra hp
    rw [h.busy.1.2 hp] at hb
    cases hb
  obtain ⟨hf, hs, he, -⟩ := h.outcome
  obtain ⟨-, -, hopen⟩ := h.phase
  have hq := h.port.1
  rw [hp] at hopen hq
  exact ⟨hp, h.memory, hb, hf, hs, he, hopen, h.portFree hq⟩

end FromInv

/-- What the ten clauses of the invariant say at each position. -/
theorem State.Inv.at_goto {s : State} : ∀ {p : Pos}, p ≠ .idle → (s.goto p).Inv → s.At p
  | .idle, hp, _ => hp rfl
  | .sSendBot, _, h | .sAwaitPeer, _, h => ⟨h.sends rfl rfl, h.portFree h.port.1⟩
  | .sHeader _, _, h => ⟨h.sends rfl rfl, h.portFree h.port.1, h.chunk.2⟩
  | .sLoad, _, h | .sDiscard, _, h | .sWaitSync, _, h | .sEchoSync, _, h | .sWaitVerdict, _, h =>
    ⟨h.sends rfl rfl, h.portFree h.port.1, h.attempts rfl rfl⟩
  | .sLoadAns, _, h => ⟨h.sends rfl rfl, h.asks h.port.1, h.attempts rfl rfl⟩
  | .sChunk _, _, h => ⟨h.sends rfl rfl, h.portFree h.port.1, h.attempts rfl rfl, h.chunk.2⟩
  | .sClose _, _, h => ⟨h.sends rfl rfl, h.portFree h.port.1, h.ends (.inl rfl)⟩
  | .sCloseAns _, _, h => ⟨h.sends rfl rfl, h.asks h.port.1, h.ends (.inr (.inl rfl))⟩
  | .rAwaitBot, _, h | .rEchoBot, _, h => ⟨h.receives rfl rfl, h.portFree h.port.1⟩
  | .rHeader _, _, h => ⟨h.receives rfl rfl, h.portFree h.port.1, h.chunk.2⟩
  | .rOpen, _, h => ⟨h.receives rfl rfl, h.portFree h.port.1, h.sizesFit rfl⟩
  | .rOpenAns, _, h => ⟨h.receives rfl rfl, h.asks h.port.1, h.sizesFit rfl, h.sink⟩
  | .rSendEot, _, h | .rSendSync, _, h | .rWaitSync, _, h | .rSendVerdict, _, h =>
    ⟨h.stores rfl rfl, h.portFree h.port.1, h.attempts rfl rfl, h.sink⟩
  | .rChunk _, _, h => ⟨h.stores rfl rfl, h.portFree h.port.1, h.attempts rfl rfl, h.sink, h.chunk.2⟩
  | .rCommit, _, h => ⟨h.stores rfl rfl, h.portFree h.port.1, h.chunkFits rfl, h.sink⟩
  | .rCommitAns, _, h => ⟨h.stores rfl rfl, h.asks h.port.1, h.chunkFits rfl, h.sink⟩
  | .rClose _, _, h =>
    ⟨h.stores rfl rfl, h.portFree h.port.1, h.ends (.inr (.inr (.inl rfl))), h.fileWhole (.inl rfl)⟩
  | .rCloseAns _, _, h =>
    ⟨h.stores rfl rfl, h.asks h.port.1, h.ends (.inr (.inr (.inr rfl))), h.fileWhole (.inr rfl)⟩

/-- The invariant of a running session, in the terms of its position. -/
theorem State.Inv.session {s : State} (h : s.Inv) {p : Pos} (hp : s.pos = p) (hi : p ≠ .idle) : s.Running ∧ s.At p := by
  subst hp
  exact ⟨h.running hi, State.Inv.at_goto hi h⟩

section ToInv

variable {s : State} {p : Pos}

theorem State.At.outcome (h : s.Running) (hat : s.At p) : (s.goto p).OutcomeOk := by
  obtain ⟨-, -, ⟨-, ho, he⟩, -, -⟩ := h
  cases p <;> simp_all [State.At, State.Ends, State.OutcomeOk, detailFits]

theorem State.At.phase (hat : s.At p) : (s.goto p).PhaseOk := by
  cases p <;>
    simp_all [State.At, State.Sends, State.Receives, State.Stores, State.PhaseOk, Pos.ofSender, Pos.ofReceiver,
      Pos.sinkIsOpen]

theorem State.At.sizes (hat : s.At p) : (s.goto p).SizesOk := by
  cases p <;>
    simp_all [State.At, State.Sends, State.Receives, State.Stores, State.SizesOk, State.SizesFit, Pos.sizesKnown,
      Pos.ofSender, Pos.sinkIsOpen]

theorem State.At.chunkFits (hat : s.At p) (hp : p.inChunk = true) : s.ChunkFits := by
  cases p <;> simp_all [State.At, State.Attempts, Pos.inChunk]

theorem State.At.chunk (hat : s.At p) : (s.goto p).ChunkOk := by
  refine ⟨hat.chunkFits, ?_⟩
  cases p with
  | sHeader | rHeader =>
    obtain ⟨-, -, hk⟩ := hat
    exact hk
  | sChunk =>
    obtain ⟨-, -, -, hk⟩ := hat
    exact hk
  | rChunk =>
    obtain ⟨-, -, -, -, hk⟩ := hat
    exact hk
  | sClose e | sCloseAns e =>
    obtain ⟨-, -, -, hidx⟩ := hat
    cases e with
    | finish => exact hidx rfl
    | raised => trivial
  | rClose e | rCloseAns e =>
    obtain ⟨-, -, ⟨-, hidx⟩, -⟩ := hat
    cases e with
    | finish => exact hidx rfl
    | raised => trivial
  | _ => trivial

theorem State.At.retry (h : s.Running) (hat : s.At p) : (s.goto p).RetryOk := by
  obtain ⟨-, -, -, -, hr⟩ := h
  cases p <;> simp_all [State.At, State.Attempts, State.RetryOk, Pos.inAttempt]

theorem State.At.port (hat : s.At p) : (s.goto p).PortOk := by
  cases ha : s.answer <;> cases p <;> simp_all [State.At, State.PortFree, State.Asks, State.PortOk]

theorem State.At.sink (hat : s.At p) : (s.goto p).SinkOk := by
  cases p with
  | rOpenAns | rCommitAns | rSendEot | rSendSync | rWaitSync | rSendVerdict | rCommit =>
    obtain ⟨-, -, -, hfile⟩ := hat
    exact hfile
  | rChunk =>
    obtain ⟨-, -, -, hfile, -⟩ := hat
    exact hfile
  | rClose e | rCloseAns e =>
    obtain ⟨-, -, -, hfile⟩ := hat
    cases e with
    | finish => exact hfile rfl
    | raised => trivial
  | _ => trivial

/-- A running session that meets the terms of its position satisfies the invariant. -/
theorem State.Running.inv (h : s.Running) (hat : s.At p) (hp : s.pos = p := by rfl) : s.Inv := by
  subst hp
  have hi : s.pos ≠ .idle := fun hi => by rw [hi] at hat; exact hat
  obtain ⟨hm, hb, hu, hs, -⟩ := id h
  exact {
    memory := hm, busy := ⟨⟨fun _ => hi, fun _ => hb⟩, fun _ => hu⟩
    snapshot := hs, outcome := hat.outcome h, phase := hat.phase, sizes := hat.sizes, chunk := hat.chunk
    retry := hat.retry h, port := hat.port, sink := hat.sink }

/-- A block at rest in these terms satisfies the invariant. -/
theorem State.Resting.inv (h : s.Resting) : s.Inv := by
  have hat : (s.goto .idle).Inv := {
    memory := h.memory
    busy := ⟨by simp [h.busy], by simp [h.busy]⟩
    outcome := ⟨h.fits, h.success, h.exhausted, trivial⟩
    snapshot := by simp [State.SnapshotOk, h.busy]
    phase := ⟨nofun, nofun, h.closed⟩
    sizes := nofun
    chunk := ⟨nofun, trivial⟩
    retry := ⟨by simp [h.busy], nofun⟩
    port := ⟨h.portFree.1, by simp [h.portFree.2]⟩
    sink := trivial }
  rw [← h.pos] at hat
  exact hat

end ToInv
end Sys2Proof.Machine
end

section
/-! SUPPORT. Each operation and each step of the block keeps the state invariant. -/

namespace Sys2Proof.Machine

/-! ### What the block's operations keep -/

/-- The state that a result answers, if it answers one, satisfies the invariant. -/
def InvAfter : Result → Prop
  | .next t => t.Inv
  | .fault _ | .refused _ => True

section Running

variable {s : State}

theorem State.Sends.sizesFit (h : s.Sends) : s.SizesFit := h.2.2

theorem State.Stores.sizesFit (h : s.Stores) : s.SizesFit := h.2.2

theorem State.Attempts.chunkFits (h : s.Attempts) : s.ChunkFits := h.1

/-- A running session was started with RETRYCOUNT above 0 (45_host_commands.md R300, R301). -/
theorem State.Running.rc_pos (h : s.Running) : 0 < s.sess.rc.toNat := by
  obtain ⟨-, hb, -, hsnap, -⟩ := h
  obtain ⟨-, hrc, -, -, -, hne, -⟩ := hsnap hb
  have : s.retrycount.toNat ≠ 0 := fun h0 => hne (BitVec.eq_of_toNat_eq h0)
  rw [hrc]
  omega

theorem State.Running.writeBuf (h : s.Running) {a : Nat} {l : List Byte} (ha : a + l.length ≤ s.params.chunkBufSize) :
    { s with buf := s.buf.writeRange a l }.Running := by
  obtain ⟨⟨hb, hh, hbk, hhk⟩, rest⟩ := h
  exact ⟨⟨Memory.writeRange_wf a l hb, hh, Memory.writeRange_keys a l ha hbk, hhk⟩, rest⟩

theorem State.Running.writeHbuf (h : s.Running) {a : Nat} {l : List Byte} (ha : a + l.length ≤ hdrSize) :
    { s with hbuf := s.hbuf.writeRange a l }.Running := by
  obtain ⟨⟨hb, hh, hbk, hhk⟩, rest⟩ := h
  exact ⟨⟨hb, Memory.writeRange_wf a l hh, hbk, Memory.writeRange_keys a l ha hhk⟩, rest⟩

/-- A NOK may be counted while an attempt runs (42_sender.md R209, 43_receiver.md R249). -/
theorem State.Running.countNok (h : s.Running) (hr : s.res.retryCnt.toNat < s.sess.rc.toNat) : s.countNok.Running := by
  obtain ⟨hm, hb, hu, hsnap, -⟩ := h
  refine ⟨hm, hb, hu, hsnap, ?_⟩
  have := s.sess.rc.isLt
  simp only [State.countNok_res, State.countNok_sess, BitVec.toNat_add, BitVec.toNat_ofNat]
  omega

/-- A request issued on a free port waits for its answer (20_memory.md R92). -/
theorem State.PortFree.asks (h : s.PortFree) (r : FileRequest) (p : Pos) : (s.issue r p).Asks r :=
  ⟨rfl, fun _ hx => nomatch h.2.symm.trans hx⟩

/-! #### The end of a session -/

theorem endSession_inv {o : SessionOutcome} {d : Detail} (h : s.Running) (hq : s.PortFree)
    (hf : detailFits o d = true) (hs : o = .success → s.exhausted = false)
    (he : o = .successExhausted ∨ o = .retryExhausted → s.exhausted = true) : (s.endSession o d).Inv := by
  obtain ⟨hm, -⟩ := h
  exact State.Resting.inv ⟨rfl, hm, rfl, hf, hs, he, rfl, hq⟩

theorem Ending.fits_raised {x : Bool} {o : SessionOutcome} {d : Detail} :
    (Ending.raised o d).fits x = true ↔
      detailFits o d = true ∧ (o ≠ .noOutcome ∧ o ≠ .success ∧ o ≠ .successExhausted) ∧
        (o = .retryExhausted → x = true) := by
  cases x <;> simp [Ending.fits, and_assoc]

theorem Ending.fits_localIoError {x : Bool} {d : Detail} (h : detailFits .localIoError d = true) :
    (Ending.raised .localIoError d).fits x = true :=
  Ending.fits_raised.2 ⟨h, by simp, nofun⟩

theorem endAfterClose_inv {e : Ending} (h : s.Running) (hq : s.PortFree) (he : e.fits s.exhausted = true) :
    (s.endAfterClose e).Inv := by
  cases e with
  | finish =>
    rw [State.endAfterClose_finish]
    cases hx : s.exhausted <;> exact endSession_inv h hq rfl (by simp [hx]) (by simp [hx])
  | raised o d =>
    obtain ⟨hf, ⟨-, hns, hnx⟩, hre⟩ := Ending.fits_raised.1 he
    exact endSession_inv h hq hf (absurd · hns) (·.elim (absurd · hnx) hre)

/-- A raise closes the open file or ends the session (60_exceptions.md R335). -/
theorem raise_inv {o : SessionOutcome} {d : Detail} (h : s.Running) (hq : s.PortFree)
    (hside : s.Sends ∨ s.Receives ∨ s.Stores) (he : (Ending.raised o d).fits s.exhausted = true) :
    (s.raise o d).Inv := by
  rcases hside with hs | ⟨hdir, hopen⟩ | hs
  · have hraise : s.raise o d = s.goto (.sClose (.raised o d)) := by simp [State.raise, hs.1]
    exact hraise ▸ State.Running.inv (p := .sClose (.raised o d)) h ⟨hs, hq, he, nofun⟩
  · have hraise : s.raise o d = s.endSession o d := by simp [State.raise, hdir, hopen]
    exact hraise ▸ endAfterClose_inv h hq he
  · obtain ⟨hdir, hopen, -⟩ := id hs
    have hraise : s.raise o d = s.goto (.rClose (.raised o d)) := by simp [State.raise, hdir, hopen]
    exact hraise ▸ State.Running.inv (p := .rClose (.raised o d)) h ⟨hs, hq, ⟨he, nofun⟩, nofun⟩

/-! #### The sizes and the chunk sequence -/

theorem deriveCounts_sizesFit {fs cs : Word} (hlo : 5 ≤ cs.toNat) (hhi : cs.toNat ≤ s.params.chunkBufSize)
    (hfs : fs.toNat ≤ 0x7FFFFFFF) : (s.deriveCounts fs cs).SizesFit := by
  have hp : (cs - 4#32).toNat = cs.toNat - 4 := by
    rw [BitVec.toNat_sub_of_le (by rw [BitVec.le_def]; exact (by omega : 4 ≤ cs.toNat))]
    rfl
  exact ⟨hlo, hhi, hfs, hp, BitVec.toNat_udiv, BitVec.toNat_umod⟩

theorem startChunk_running {i : Word} {p : Pos} (h : s.Running) : (s.startChunk i p).Running := by
  obtain ⟨hm, hb, hu, hsnap, -⟩ := h
  exact ⟨hm, hb, hu, hsnap, Nat.zero_le _⟩

/-- A chunk starts with an attempt, and with no NOK counted (R203, R244). -/
theorem startChunk_attempts {i : Word} {p : Pos} (h : s.Running) (hi : i.toNat ≤ s.res.numFull.toNat) :
    (s.startChunk i p).Attempts :=
  ⟨⟨hi, rfl⟩, h.rc_pos⟩

theorem toNat_add_one_of_lt {i n : Word} (h : i < n) : (i + 1#32).toNat = i.toNat + 1 := by
  have := n.isLt
  rw [BitVec.lt_def] at h
  simp only [BitVec.toNat_add, BitVec.toNat_ofNat]
  omega

/-- The index of the chunk that is not a full one is NUM_FULL (30_encoding.md R117). -/
theorem State.ChunkFits.idx_eq (h : s.ChunkFits) (hlast : ¬ s.res.chunkIdx < s.res.numFull) :
    s.res.chunkIdx = s.res.numFull := by
  obtain ⟨hle, -⟩ := h
  rw [BitVec.lt_def] at hlast
  exact BitVec.eq_of_toNat_eq (by omega)

theorem senderNextChunk_inv (h : s.Running) (hs : s.Sends) (hq : s.PortFree) (hc : s.ChunkFits) :
    (senderNextChunk s).Inv := by
  obtain ⟨hlt, hnext⟩ | ⟨hlast, hnext⟩ := State.nextChunk_cases s .sLoad (.sClose .finish)
  · have hi : (s.res.chunkIdx + 1#32).toNat ≤ s.res.numFull.toNat := by
      rw [toNat_add_one_of_lt hlt]; exact hlt
    rw [senderNextChunk, hnext]
    exact State.Running.inv (p := .sLoad) (startChunk_running h) ⟨hs, hq, startChunk_attempts h hi⟩
  · rw [senderNextChunk, hnext]
    exact State.Running.inv (p := .sClose .finish) h ⟨hs, hq, rfl, fun _ => hc.idx_eq hlast⟩

/-- The receiver's next chunk starts, or its file is whole (43_receiver.md R250, R252). -/
theorem receiverNextChunk_inv (h : s.Running) (hs : s.Stores) (hq : s.PortFree) (hc : s.ChunkFits)
    (hfile : s.sinkFile.length = s.res.chunkIdx.toNat * s.sess.p.toNat + s.sess.len.toNat) :
    (s.nextChunk .rSendEot (.rClose .finish)).Inv := by
  obtain ⟨-, hlen⟩ := id hc
  obtain ⟨hlt, hnext⟩ | ⟨hlast, hnext⟩ := State.nextChunk_cases s .rSendEot (.rClose .finish)
  · have hidx := toNat_add_one_of_lt hlt
    have hi : (s.res.chunkIdx + 1#32).toNat ≤ s.res.numFull.toNat := by
      rw [hidx]; exact hlt
    have hbefore : s.sinkFile.length = (s.res.chunkIdx + 1#32).toNat * s.sess.p.toNat := by
      rw [hfile, hlen, if_pos hlt, hidx, Nat.add_mul, Nat.one_mul]
    exact hnext ▸
      State.Running.inv (p := .rSendEot) (startChunk_running h) ⟨hs, hq, startChunk_attempts h hi, hbefore⟩
  · obtain ⟨-, -, -, -, hfull, hrem⟩ := hs.sizesFit
    have hwhole : s.sinkFile.length = s.sess.fs.toNat := by
      rw [hfile, hlen, if_neg hlast, hc.idx_eq hlast, hfull, hrem, Nat.div_add_mod']
    exact hnext ▸
      State.Running.inv (p := .rClose .finish) h ⟨hs, hq, ⟨rfl, fun _ => hc.idx_eq hlast⟩, fun _ => hwhole⟩

/-- The verdict NOK keeps the invariant if the next attempt and the lenient advance do (R209, R249). -/
theorem nokVerdict_inv {again : Pos} {advance : State → State} (h : s.Running) (hq : s.PortFree)
    (hside : s.Sends ∨ s.Stores) (hr : s.res.retryCnt.toNat < s.sess.rc.toNat)
    (hagain : s.res.retryCnt + 1#8 < s.sess.rc → s.countNok.Running → (s.countNok.goto again).Inv)
    (hadvance : s.countNok.Running → (advance { s.countNok with exhausted := true }).Inv) :
    (s.nokVerdict again advance).Inv := by
  have hc := h.countNok hr
  obtain ⟨hlt, hv⟩ | ⟨-, -, hv⟩ | ⟨-, -, hv⟩ := State.nokVerdict_cases s again advance
  · exact hv ▸ hagain hlt hc
  · rw [hv]
    exact raise_inv hc hq (hside.imp id .inr) rfl
  · exact hv ▸ hadvance hc

end Running

/-- Taking an answer keeps the invariant if the continuation does on every admitted answer (20_memory.md R92). -/
theorem takeAnswer_inv {s : State} {k : State → FileAnswer → Result} {r : FileRequest} (h : s.Inv) (hr : s.Asks r)
    (hk : ∀ x, s.answer = some x → r.admits x = true → InvAfter (k s.portDone x)) : InvAfter (s.takeAnswer k) := by
  obtain ⟨hp, hadm⟩ := hr
  cases ha : s.answer with
  | none =>
    rw [State.takeAnswer_hold ha]
    exact h
  | some x =>
    rw [State.takeAnswer_some ha hp (hadm x ha)]
    exact hk x ha (hadm x ha)

/-! ### The sender's steps -/

section Sender

variable {s : State}

theorem senderSendBot_inv (h : s.Running) (hat : s.At .sSendBot) : InvAfter (senderSendBot s) :=
  State.Running.inv (p := .sAwaitPeer) h hat

theorem senderPeerReady_inv (h : s.Running) (hat : s.At .sAwaitPeer) : (senderPeerReady s).Inv := by
  obtain ⟨hs, hq⟩ := hat
  have hname : (senderHeaderRecord s).fileName.length ≤ 64 :=
    (untilNul_length_le _).trans_eq (nameBytes_length s.name)
  have hlen : 0 + (encodeHeader (senderHeaderRecord s) s.sess.cfg).length ≤ hdrSize := by
    rw [encodeHeader_length _ _ hname, Nat.zero_add]
  exact State.Running.inv (p := .sHeader 0) (h.writeHbuf hlen) ⟨hs, hq, by decide⟩

theorem senderHeader_inv {k : Nat} (h : s.Running) (hat : s.At (.sHeader k)) : InvAfter (senderHeader s k) := by
  obtain ⟨hs, hq, hk⟩ := hat
  simp only [senderHeader, if_pos hk]
  split
  · exact State.Running.inv (p := .sHeader (k + 1)) h ⟨hs, hq, ‹_›⟩
  · have h' : (s.linkSend (s.hbuf.read k)).Running := h
    exact State.Running.inv (p := .sLoad) (startChunk_running h')
      ⟨hs, hq, startChunk_attempts h' (Nat.zero_le _)⟩

theorem senderLoad_inv (h : s.Running) (hat : s.At .sLoad) : InvAfter (senderLoad s) := by
  obtain ⟨hs, hq, ha⟩ := hat
  exact State.Running.inv (p := .sLoadAns) h ⟨hs, hq.asks _ _, ha⟩

/-- A chunk attempt fits in BUF (30_encoding.md R116, R117). -/
theorem State.SizesFit.chunkBytes_le (h : s.SizesFit) (hc : s.ChunkFits) : s.chunkBytes ≤ s.params.chunkBufSize := by
  obtain ⟨hlo, hhi, -, hp, -, hrem⟩ := h
  obtain ⟨-, hlen⟩ := hc
  have hmod := Nat.mod_lt s.sess.fs.toNat (show 0 < s.sess.p.toNat by omega)
  unfold State.chunkBytes
  rw [hlen]
  split <;> omega

theorem senderLoadAnswer_inv (h : s.Inv) (hr : s.Running) (hat : s.At .sLoadAns) :
    InvAfter (s.takeAnswer senderLoadAnswer) := by
  obtain ⟨hs, hask, ha⟩ := hat
  have hfit := hs.sizesFit.chunkBytes_le ha.chunkFits
  refine takeAnswer_inv h hask fun x _ hx => ?_
  cases x with
  | ack => trivial
  | ioErr => exact raise_inv (s := s.portDone) hr ⟨rfl, rfl⟩ (.inl hs) (Ending.fits_localIoError rfl)
  | data payload =>
    have hlen : payload.length = s.portDone.sess.len.toNat := by simpa using hx
    have hfit' : s.portDone.chunkBytes ≤ s.portDone.params.chunkBufSize := hfit
    simp only [senderLoadAnswer, if_pos hlen, senderChunkLoaded, if_pos hfit']
    unfold State.chunkBytes at hfit'
    have hpay : s.portDone.Running := hr
    exact State.Running.inv (p := .sDiscard)
      ((hpay.writeBuf (a := 0) (l := payload) (by omega)).writeBuf (by simpa using hfit')) ⟨hs, ⟨rfl, rfl⟩, ha⟩

theorem senderDiscard_inv (h : s.Running) (hat : s.At .sDiscard) : InvAfter (senderDiscard s) := by
  obtain ⟨hs, hq, ha⟩ := hat
  exact State.Running.inv (p := .sChunk 0) h ⟨hs, hq, ha, Nat.succ_pos _⟩

theorem senderChunk_inv {k : Nat} (h : s.Running) (hat : s.At (.sChunk k)) : InvAfter (senderChunk s k) := by
  obtain ⟨hs, hq, ha, hk⟩ := hat
  have hfit := hs.sizesFit.chunkBytes_le ha.chunkFits
  simp only [senderChunk, if_pos (Nat.lt_of_lt_of_le hk hfit)]
  split
  · exact State.Running.inv (p := .sChunk (k + 1)) h ⟨hs, hq, ha, ‹_›⟩
  · exact State.Running.inv (p := .sWaitSync) h ⟨hs, hq, ha⟩

theorem senderSyncSeen_inv (h : s.Running) (hat : s.At .sWaitSync) : (senderSyncSeen s).Inv :=
  State.Running.inv (p := .sEchoSync) h hat

theorem senderEchoSync_inv (h : s.Running) (hat : s.At .sEchoSync) : InvAfter (senderEchoSync s) :=
  State.Running.inv (p := .sWaitVerdict) h hat

theorem senderSok_inv (h : s.Running) (hat : s.At .sWaitVerdict) : (senderSok s).Inv := by
  obtain ⟨hs, hq, hc, -⟩ := hat
  exact senderNextChunk_inv h hs hq hc

theorem senderNok_inv (h : s.Running) (hat : s.At .sWaitVerdict) : (senderNok s).Inv := by
  obtain ⟨hs, hq, hc, hr⟩ := hat
  refine nokVerdict_inv h hq (.inl hs) hr (fun hlt hn => ?_) (fun hn => ?_)
  · exact State.Running.inv (p := .sDiscard) hn ⟨hs, hq, hc, hlt⟩
  · exact senderNextChunk_inv (s := { s.countNok with exhausted := true }) hn hs hq hc

theorem senderClose_inv {e : Ending} (h : s.Running) (hat : s.At (.sClose e)) : InvAfter (senderClose s e) := by
  obtain ⟨hs, hq, he⟩ := hat
  exact State.Running.inv (p := .sCloseAns e) h ⟨hs, hq.asks _ _, he⟩

theorem senderCloseAnswer_inv {e : Ending} (h : s.Inv) (hr : s.Running) (hat : s.At (.sCloseAns e)) :
    InvAfter (s.takeAnswer fun t x => senderCloseAnswer t e x) := by
  obtain ⟨-, hask, he, -⟩ := hat
  refine takeAnswer_inv h hask fun x _ hx => ?_
  cases x with
  | ack => exact endAfterClose_inv (s := s.portDone) hr ⟨rfl, rfl⟩ he
  | data | ioErr => trivial

end Sender

/-! ### The receiver's steps -/

section Receiver

variable {s : State}

theorem receiverBotSeen_inv (h : s.Running) (hat : s.At .rAwaitBot) : (receiverBotSeen s).Inv :=
  State.Running.inv (p := .rEchoBot) h hat

theorem receiverEchoBot_inv (h : s.Running) (hat : s.At .rEchoBot) : InvAfter (receiverEchoBot s) := by
  obtain ⟨hs, hq⟩ := hat
  exact State.Running.inv (p := .rHeader 0) h ⟨hs, hq, by decide⟩

/-- A header is refused with one of R332's details of HEADER_ERROR (41_header_codec.md R173). -/
theorem decodeHeader_error {cap : Nat} {cfg : CrcCfg} {strict : Bool} {l : List Byte} {d : Detail}
    (h : decodeHeader cap cfg strict l = .error d) : detailFits .headerError d = true := by
  unfold decodeHeader at h
  dsimp only at h
  split at h
  · cases h; rfl
  · split at h
    · cases h; rfl
    · split at h
      · cases h; rfl
      · split at h
        · cases h; rfl
        · cases h

/-- An accepted header's sizes are in range (R173). -/
theorem decodeHeader_ok {cap : Nat} {cfg : CrcCfg} {strict : Bool} {l : List Byte} {r : Header}
    (h : decodeHeader cap cfg strict l = .ok r) :
    0 ≤ r.fileSize.toInt ∧ 5 ≤ r.chunkSize.toInt ∧ r.chunkSize.toInt ≤ (cap : Int) := by
  unfold decodeHeader at h
  dsimp only at h
  split at h
  · cases h
  · split at h
    · cases h
    · split at h
      · cases h
      · split at h
        · cases h
        · cases h; omega

/-- A receiver takes its sizes from the header, so its snapshot holds no registers' sizes (R243, R63). -/
theorem deriveCounts_running {fs cs : Word} (h : s.Running) (hd : s.sess.dir = .receive) :
    (s.deriveCounts fs cs).Running := by
  obtain ⟨hm, hb, hu, hsnap, hr⟩ := h
  refine ⟨hm, hb, hu, fun _ => ?_, hr⟩
  obtain ⟨hcfg, hrc, hh, hrs, hdir, hne, -⟩ := hsnap hb
  refine ⟨hcfg, hrc, hh, hrs, hdir, hne, fun hsend => ?_⟩
  have hcontra : Direction.receive = .send := hd.symm.trans (hdir.trans hsend)
  cases hcontra

/-- A header with sizes in range is accepted (R173, R243). -/
theorem acceptHeader_inv {fs cs : Word} (h : s.Running) (hs : s.Receives) (hq : s.PortFree) (hfs : 0 ≤ fs.toInt)
    (hlo : 5 ≤ cs.toInt) (hhi : cs.toInt ≤ (s.params.chunkBufSize : Int)) :
    ((s.deriveCounts fs cs).goto .rOpen).Inv := by
  simp only [BitVec.toInt_eq_toNat_cond] at hfs hlo hhi
  have := fs.isLt
  have := cs.isLt
  refine State.Running.inv (p := .rOpen) (deriveCounts_running (s := s) h hs.1)
    ⟨hs, hq, deriveCounts_sizesFit (s := s) ?_ ?_ ?_⟩
  · split at hlo <;> omega
  · split at hlo <;> split at hhi <;> omega
  · split at hfs <;> omega

theorem receiverHeaderDone_inv (h : s.Running) (hs : s.Receives) (hq : s.PortFree) : (receiverHeaderDone s).Inv := by
  unfold receiverHeaderDone
  dsimp only
  split
  · next d hd =>
    have hf := decodeHeader_error hd
    exact raise_inv (s := receiverReport s _) h hq (.inr (.inl hs)) (Ending.fits_raised.2 ⟨hf, by simp, nofun⟩)
  · next r hr =>
    obtain ⟨hfs, hlo, hhi⟩ := decodeHeader_ok hr
    exact acceptHeader_inv (s := receiverReport s _) h hs hq hfs hlo hhi

theorem receiverHeader_inv {k : Nat} (hi : s.Inv) (h : s.Running) (hat : s.At (.rHeader k)) :
    InvAfter (receiverHeader s k) := by
  obtain ⟨hs, hq, hk⟩ := hat
  unfold receiverHeader
  split
  · exact hi
  · next b r _ =>
    simp only [if_pos hk]
    have h' : { s with rxq := r, hbuf := s.hbuf.write k b }.Running := h.writeHbuf (a := k) (l := [b]) hk
    split
    · exact State.Running.inv (p := .rHeader (k + 1)) h' ⟨hs, hq, ‹_›⟩
    · exact receiverHeaderDone_inv h' hs hq

theorem receiverOpen_inv (h : s.Running) (hat : s.At .rOpen) : InvAfter (receiverOpen s) := by
  obtain ⟨hs, hq, hsz⟩ := hat
  exact State.Running.inv (p := .rOpenAns) h ⟨hs, hq.asks _ _, hsz, fun hx => nomatch hq.2.symm.trans hx⟩

theorem receiverOpenAnswer_inv (h : s.Inv) (hr : s.Running) (hat : s.At .rOpenAns) :
    InvAfter (s.takeAnswer receiverOpenAnswer) := by
  obtain ⟨hs, hask, hsz, hempty⟩ := hat
  refine takeAnswer_inv h hask fun x hx _ => ?_
  cases x with
  | ack =>
    have hr' : { s.portDone with sinkOpened := true }.Running := hr
    have hfile : s.sinkFile.length = 0 * s.sess.p.toNat := by simp [hempty hx]
    exact State.Running.inv (p := .rSendEot) (startChunk_running hr')
      ⟨⟨hs.1, rfl, hsz⟩, ⟨rfl, rfl⟩, startChunk_attempts hr' (Nat.zero_le _), hfile⟩
  | ioErr => exact raise_inv (s := s.portDone) hr ⟨rfl, rfl⟩ (.inr (.inl hs)) (Ending.fits_localIoError rfl)
  | data => trivial

theorem receiverSendEot_inv (h : s.Running) (hat : s.At .rSendEot) : InvAfter (receiverSendEot s) := by
  obtain ⟨hs, hq, ha, hfile⟩ := hat
  exact State.Running.inv (p := .rChunk 0) h ⟨hs, hq, ha, hfile, Nat.succ_pos _⟩

theorem receiverChunk_inv {k : Nat} (hi : s.Inv) (h : s.Running) (hat : s.At (.rChunk k)) :
    InvAfter (receiverChunk s k) := by
  obtain ⟨hs, hq, ha, hfile, hk⟩ := hat
  have hcap := Nat.lt_of_lt_of_le hk (hs.sizesFit.chunkBytes_le ha.chunkFits)
  unfold receiverChunk
  split
  · exact hi
  · next b r _ =>
    simp only [if_pos hcap]
    have h' : { s with rxq := r, buf := s.buf.write k b }.Running := h.writeBuf (a := k) (l := [b]) hcap
    split
    · exact State.Running.inv (p := .rChunk (k + 1)) h' ⟨hs, hq, ha, hfile, ‹_›⟩
    · exact State.Running.inv (p := .rSendSync) h' ⟨hs, hq, ha, hfile⟩

theorem receiverSendSync_inv (h : s.Running) (hat : s.At .rSendSync) : InvAfter (receiverSendSync s) :=
  State.Running.inv (p := .rWaitSync) h hat

theorem receiverSyncSeen_inv (h : s.Running) (hat : s.At .rWaitSync) : (receiverSyncSeen s).Inv :=
  State.Running.inv (p := .rSendVerdict) h hat

theorem receiverNok_inv (h : s.Running) (hat : s.At .rSendVerdict) :
    (s.nokVerdict .rSendEot fun t => t.goto .rCommit).Inv := by
  obtain ⟨hs, hq, ⟨hc, hr⟩, hfile⟩ := hat
  refine nokVerdict_inv h hq (.inr hs) hr (fun hlt hn => ?_) (fun hn => ?_)
  · exact State.Running.inv (p := .rSendEot) hn ⟨hs, hq, ⟨hc, hlt⟩, hfile⟩
  · exact State.Running.inv (p := .rCommit) hn ⟨hs, hq, hc, hfile⟩

theorem receiverSendVerdict_inv (h : s.Running) (hat : s.At .rSendVerdict) : InvAfter (receiverSendVerdict s) := by
  unfold receiverSendVerdict
  split
  · obtain ⟨hs, hq, ⟨hc, -⟩, hfile⟩ := hat
    exact State.Running.inv (p := .rCommit) h ⟨hs, hq, hc, hfile⟩
  · exact receiverNok_inv (s := s.linkSend ctrlNOK) h hat

theorem receiverCommit_inv (h : s.Running) (hat : s.At .rCommit) : InvAfter (receiverCommit s) := by
  obtain ⟨hs, hq, hc, hfile⟩ := hat
  simp only [receiverCommit, if_pos (hs.sizesFit.chunkBytes_le hc)]
  refine State.Running.inv (p := .rCommitAns) h ⟨hs, hq.asks _ _, hc, ?_⟩
  rw [State.issue_answer, hq.2]
  exact hfile

theorem receiverCommitAnswer_inv (h : s.Inv) (hr : s.Running) (hat : s.At .rCommitAns) :
    InvAfter (s.takeAnswer receiverCommitAnswer) := by
  obtain ⟨hs, hask, hc, hfile⟩ := hat
  refine takeAnswer_inv h hask fun x hx _ => ?_
  cases x with
  | ack =>
    rw [if_pos hx] at hfile
    exact receiverNextChunk_inv (s := s.portDone) hr hs ⟨rfl, rfl⟩ hc hfile
  | ioErr => exact raise_inv (s := s.portDone) hr ⟨rfl, rfl⟩ (.inr (.inr hs)) (Ending.fits_localIoError rfl)
  | data => trivial

theorem receiverClose_inv {e : Ending} (h : s.Running) (hat : s.At (.rClose e)) : InvAfter (receiverClose s e) := by
  obtain ⟨hs, hq, he, hfile⟩ := hat
  exact State.Running.inv (p := .rCloseAns e) h ⟨hs, hq.asks _ _, he, hfile⟩

theorem receiverCloseAnswer_inv {e : Ending} (h : s.Inv) (hr : s.Running) (hat : s.At (.rCloseAns e)) :
    InvAfter (s.takeAnswer fun t x => receiverCloseAnswer t e x) := by
  obtain ⟨-, hask, ⟨he, -⟩, -⟩ := hat
  refine takeAnswer_inv h hask fun x _ hx => ?_
  cases x with
  | ack => exact endAfterClose_inv (s := s.portDone) hr ⟨rfl, rfl⟩ he
  | data | ioErr => trivial

end Receiver

end Sys2Proof.Machine
end

section
/-! SUPPORT. What a turn of the host on its bus and a turn of the block may write. -/

namespace Sys2Proof

/-! ### Host accesses -/

/-- The rows of the control bytes (30_encoding.md R111, R112). -/
def Instr.isControl : Instr → Bool
  | .eot | .bot | .lok | .sync | .ok | .rsd | .sok | .nok | .ctrlOther _ => true
  | _ => false

theorem decodeCtrl_isControl (b : Byte) : (decodeCtrl b).isControl = true := by
  unfold decodeCtrl
  split <;> rfl

theorem decodeWrite_isControl (off : BitVec 8) (data : Word) : (decodeWrite off data).isControl = false := by
  unfold decodeWrite decodeCommand
  repeat' split
  all_goals rfl

theorem decodeRead_isControl (off : BitVec 8) : (decodeRead off).isControl = false := by
  unfold decodeRead
  repeat' split
  all_goals rfl

/-- No host access is decoded as a control byte (30_encoding.md R110). -/
theorem decode_bus_isControl {d : BitVec 41} {i : Instr} (h : decode (.bus d) = .ok i) : i.isControl = false := by
  simp only [decode, decodeBus] at h
  split at h
  · cases h
  · split at h
    · cases h; exact decodeWrite_isControl ..
    · cases h; exact decodeRead_isControl ..

namespace Machine

/-- A host access that answers a next state ran the instruction of its turn. -/
theorem hostAccess_next {a : HostAccess} {s t : State} (h : hostAccess a s = .next t) :
    ∃ i, (Turn.access a).instr = some i ∧ i.isControl = false ∧ exec i s = .next t := by
  unfold hostAccess at h
  split at h
  · next ha =>
    split at h
    · next i hd => exact ⟨i, by simp [Turn.instr, ha, hd], decode_bus_isControl hd, h⟩
    · cases h
  · cases h

/-- What an access other than SEND or RECEIVE may do: it writes the configuration registers and the name buffer while
not BUSY, clears DONE, sets or clears WERR, steps or loads CRC_ACC and returns a value. -/
structure State.HostWrote (s : State) (i : Instr) (t : State) : Prop where
  frame : t = { s with
    ctrl := t.ctrl, retrycount := t.retrycount, chunkSize := t.chunkSize, fileSize := t.fileSize
    crcPoly := t.crcPoly, crcInit := t.crcInit, crcXorout := t.crcXorout, name := t.name
    done := t.done, werr := t.werr, crcAcc := t.crcAcc, trace := t.trace }
  locked : s.busy = true → t = { s with done := t.done, werr := t.werr, crcAcc := t.crcAcc, trace := t.trace }
  done : t.done = true → s.done = true
  crcAcc : t.crcAcc = s.crcAcc ∨ i = .crcClear ∨ ∃ data, i = .crcUpdate data

section HostWrote

variable {s t : State} {i : Instr}

theorem State.HostWrote.busy_eq (h : s.HostWrote i t) : t.busy = s.busy := by rw [h.frame]

theorem hostReturn_wrote (v : Word) : s.HostWrote i (s.hostReturn v) := ⟨rfl, fun _ => rfl, id, .inl rfl⟩

theorem setWerr_wrote : s.HostWrote i s.setWerr := ⟨rfl, fun _ => rfl, id, .inl rfl⟩

/-- A locked write of configuration registers or of the name buffer (45_host_commands.md R304, R305). -/
theorem lockedWrite_wrote {w : State}
    (hw : w = { s with
      ctrl := w.ctrl, retrycount := w.retrycount, chunkSize := w.chunkSize, fileSize := w.fileSize
      crcPoly := w.crcPoly, crcInit := w.crcInit, crcXorout := w.crcXorout, name := w.name }) :
    s.HostWrote i (s.lockedWrite w) := by
  obtain ⟨-, he⟩ | ⟨hb, he⟩ := State.lockedWrite_cases s w
  · exact he ▸ setWerr_wrote
  · rw [he, hw]
    exact ⟨rfl, fun hb' => absurd (hb.symm.trans hb') nofun, id, .inl rfl⟩

/-- Every access but SEND and RECEIVE writes as `State.HostWrote` says. -/
theorem exec_wrote (h : exec i s = .next t) (hc : i.isControl = false) (hs : i ≠ .send) (hr : i ≠ .receive) :
    s.HostWrote i t := by
  cases i with
  | eot | bot | lok | sync | ok | rsd | sok | nok | ctrlOther => cases hc
  | send => exact absurd rfl hs
  | receive => exact absurd rfl hr
  | crcClear => cases h; exact ⟨rfl, fun _ => rfl, id, .inr (.inl rfl)⟩
  | crcUpdate data => cases h; exact ⟨rfl, fun _ => rfl, id, .inr (.inr ⟨data, rfl⟩)⟩
  | cmdReserved => cases h; exact setWerr_wrote
  | wrStatus => cases h; exact ⟨rfl, fun _ => rfl, fun hd => (Bool.and_eq_true_iff.1 hd).1, .inl rfl⟩
  | wrIgnored => cases h; exact ⟨rfl, fun _ => rfl, id, .inl rfl⟩
  | wrCtrl | wrRetrycount | wrChunkSize | wrFileSize | wrCrcPoly | wrCrcInit | wrCrcXorout | wrName =>
    cases h; exact lockedWrite_wrote rfl
  | _ => cases h; exact hostReturn_wrote _

end HostWrote

/-! ### The block's turn and the host's registers -/

/-- The fields of the state that no turn of the block writes; the rest as after reset. -/
def State.hostSide (s : State) : State :=
  { State.reset with
    params := s.params, ctrl := s.ctrl, werr := s.werr, dir := s.dir, retrycount := s.retrycount
    chunkSize := s.chunkSize, fileSize := s.fileSize, crcPoly := s.crcPoly, crcInit := s.crcInit
    crcXorout := s.crcXorout, crcAcc := s.crcAcc, agenda := s.agenda, trace := s.trace }

/-- What the block may do to the host's registers: it leaves those of `State.hostSide`, and BUSY unless the session
ends (60_exceptions.md R335). -/
def State.BlockMoved (s t : State) : Prop :=
  t.hostSide = s.hostSide ∧ (t.busy = s.busy ∨ t.busy = false ∧ t.done = true ∧ t.pos = .idle)

/-- `State.BlockMoved` of the state that a result answers. -/
def MovedAfter (s : State) : Result → Prop
  | .next t => s.BlockMoved t
  | .fault _ | .refused _ => True

/-- What a step does after changes that leave the host's registers and BUSY. -/
theorem State.BlockMoved.of_eq {s t u : State} (h : u.BlockMoved t) (hs : u.hostSide = s.hostSide)
    (hb : u.busy = s.busy) : s.BlockMoved t :=
  ⟨h.1.trans hs, hb ▸ h.2⟩

section BlockMoved

variable (s : State)

theorem endAfterClose_moved (e : Ending) : s.BlockMoved (s.endAfterClose e) := by
  cases e <;> exact ⟨rfl, .inr ⟨rfl, rfl, rfl⟩⟩

theorem raise_moved (o : SessionOutcome) (d : Detail) : s.BlockMoved (s.raise o d) := by
  obtain ⟨-, h⟩ | ⟨-, -, h⟩ | ⟨-, -, h⟩ := State.raise_cases s o d
  · exact h ▸ ⟨rfl, .inl rfl⟩
  · exact h ▸ ⟨rfl, .inl rfl⟩
  · exact h ▸ ⟨rfl, .inr ⟨rfl, rfl, rfl⟩⟩

theorem nextChunk_moved (again close : Pos) : s.BlockMoved (s.nextChunk again close) := by
  obtain ⟨-, h⟩ | ⟨-, h⟩ := State.nextChunk_cases s again close <;> exact h ▸ ⟨rfl, .inl rfl⟩

theorem nokVerdict_moved (again : Pos) {advance : State → State} (hadv : ∀ t, State.BlockMoved t (advance t)) :
    s.BlockMoved (s.nokVerdict again advance) := by
  obtain ⟨-, h⟩ | ⟨-, -, h⟩ | ⟨-, -, h⟩ := State.nokVerdict_cases s again advance
  · exact h ▸ ⟨rfl, .inl rfl⟩
  · rw [h]; exact (raise_moved { s.countNok with exhausted := true } _ _).of_eq rfl rfl
  · rw [h]; exact (hadv { s.countNok with exhausted := true }).of_eq rfl rfl

theorem takeAnswer_moved {k : State → FileAnswer → Result} (hk : ∀ t x, MovedAfter t (k t x)) :
    MovedAfter s (s.takeAnswer k) := by
  cases h : s.takeAnswer k with
  | next t =>
    obtain ⟨-, rfl⟩ | ⟨x, r, -, -, -, hx⟩ := State.takeAnswer_next h
    · exact ⟨rfl, .inl rfl⟩
    · have hm := hk s.portDone x
      rw [hx] at hm
      exact hm
  | fault | refused => trivial

theorem exec_control_moved {i : Instr} (hi : i.isControl = true) : MovedAfter s (exec i s) := by
  cases i with
  | eot | lok | ok | rsd | ctrlOther => exact ⟨rfl, .inl rfl⟩
  | bot | sync =>
    simp only [exec, execBot, execSync]
    split <;> exact ⟨rfl, .inl rfl⟩
  | sok =>
    simp only [exec, execSok]
    split
    · exact nextChunk_moved s _ _
    · exact ⟨rfl, .inl rfl⟩
  | nok =>
    simp only [exec, execNok]
    split
    · exact nokVerdict_moved s _ fun t => nextChunk_moved t _ _
    · exact ⟨rfl, .inl rfl⟩
  | _ => cases hi

theorem recvControl_moved : MovedAfter s (recvControl s) := by
  unfold recvControl
  split
  · exact ⟨rfl, .inl rfl⟩
  · next b r _ => exact exec_control_moved { s with rxq := r } (decodeCtrl_isControl b)

theorem deriveCounts_goto_moved (fs cs : Word) (p : Pos) : s.BlockMoved ((s.deriveCounts fs cs).goto p) :=
  ⟨rfl, .inl rfl⟩

theorem receiverHeaderDone_moved : s.BlockMoved (receiverHeaderDone s) := by
  unfold receiverHeaderDone
  dsimp only
  split
  · exact (raise_moved (receiverReport s _) _ _).of_eq rfl rfl
  · exact (deriveCounts_goto_moved (receiverReport s _) _ _ _).of_eq rfl rfl

theorem senderLoadAnswer_moved (x : FileAnswer) : MovedAfter s (senderLoadAnswer s x) := by
  cases x with
  | ack => trivial
  | ioErr => exact raise_moved s _ _
  | data payload =>
    simp only [senderLoadAnswer, senderChunkLoaded]
    repeat' split
    · exact ⟨rfl, .inl rfl⟩
    · trivial
    · trivial

theorem senderCloseAnswer_moved (e : Ending) (x : FileAnswer) : MovedAfter s (senderCloseAnswer s e x) := by
  cases x with
  | ack => exact endAfterClose_moved s e
  | data | ioErr => trivial

theorem receiverOpenAnswer_moved (x : FileAnswer) : MovedAfter s (receiverOpenAnswer s x) := by
  cases x with
  | ack => exact ⟨rfl, .inl rfl⟩
  | ioErr => exact raise_moved s _ _
  | data => trivial

theorem receiverCommitAnswer_moved (x : FileAnswer) : MovedAfter s (receiverCommitAnswer s x) := by
  cases x with
  | ack => exact nextChunk_moved s _ _
  | ioErr => exact raise_moved s _ _
  | data => trivial

theorem receiverCloseAnswer_moved (e : Ending) (x : FileAnswer) : MovedAfter s (receiverCloseAnswer s e x) := by
  cases x with
  | ack => exact endAfterClose_moved s e
  | data | ioErr => trivial

theorem receiverSendVerdict_moved : MovedAfter s (receiverSendVerdict s) := by
  unfold receiverSendVerdict
  split
  · exact ⟨rfl, .inl rfl⟩
  · have hadv : ∀ t : State, t.BlockMoved (t.goto .rCommit) := fun t => ⟨rfl, .inl rfl⟩
    exact (nokVerdict_moved (s.linkSend ctrlNOK) .rSendEot hadv).of_eq rfl rfl

theorem receiverHeader_moved (k : Nat) : MovedAfter s (receiverHeader s k) := by
  unfold receiverHeader
  split
  · exact ⟨rfl, .inl rfl⟩
  · dsimp only
    repeat' split
    · exact ⟨rfl, .inl rfl⟩
    · exact (receiverHeaderDone_moved { s with rxq := _, hbuf := _ }).of_eq rfl rfl
    · trivial

theorem receiverChunk_moved (k : Nat) : MovedAfter s (receiverChunk s k) := by
  unfold receiverChunk
  split
  · exact ⟨rfl, .inl rfl⟩
  · dsimp only
    repeat' split
    · exact ⟨rfl, .inl rfl⟩
    · exact ⟨rfl, .inl rfl⟩
    · trivial

theorem senderHeader_moved (k : Nat) : MovedAfter s (senderHeader s k) := by
  unfold senderHeader
  dsimp only
  repeat' split
  · exact ⟨rfl, .inl rfl⟩
  · exact ⟨rfl, .inl rfl⟩
  · trivial

theorem senderChunk_moved (k : Nat) : MovedAfter s (senderChunk s k) := by
  unfold senderChunk
  split
  · exact ⟨rfl, .inl rfl⟩
  · trivial

theorem receiverCommit_moved : MovedAfter s (receiverCommit s) := by
  unfold receiverCommit
  split
  · exact ⟨rfl, .inl rfl⟩
  · trivial

/-- A turn of the block leaves the host's registers, and BUSY unless it ends the session. -/
theorem blockStep_moved : MovedAfter s (blockStep s) := by
  unfold blockStep
  cases s.pos with
  | sAwaitPeer | sWaitSync | sWaitVerdict | rAwaitBot | rWaitSync => exact recvControl_moved s
  | sHeader k => exact senderHeader_moved s k
  | sLoadAns => exact takeAnswer_moved s senderLoadAnswer_moved
  | sChunk k => exact senderChunk_moved s k
  | sCloseAns e => exact takeAnswer_moved s fun t => senderCloseAnswer_moved t e
  | rHeader k => exact receiverHeader_moved s k
  | rOpenAns => exact takeAnswer_moved s receiverOpenAnswer_moved
  | rChunk k => exact receiverChunk_moved s k
  | rSendVerdict => exact receiverSendVerdict_moved s
  | rCommit => exact receiverCommit_moved s
  | rCommitAns => exact takeAnswer_moved s receiverCommitAnswer_moved
  | rCloseAns e => exact takeAnswer_moved s fun t => receiverCloseAnswer_moved t e
  | _ => exact ⟨rfl, .inl rfl⟩

end BlockMoved

end Machine
end Sys2Proof
end

section
/-! The statements about every step: the invariant, BUSY, CRC_ACC and the results of a session. -/

namespace Sys2Proof.Machine

/-! ### Commands -/

section Start

variable {s : State}

/-- SEND's start checks refuse with CONFIG_ERROR's details (45_host_commands.md R300, 60_exceptions.md R332). -/
theorem sendCheck_some {d : Detail} (h : sendCheck s = some d) : detailFits .configError d = true := by
  unfold sendCheck at h
  repeat' split at h
  all_goals cases h
  all_goals rfl

/-- What an accepted SEND has checked (R300). -/
theorem sendCheck_none (h : sendCheck s = none) :
    s.fileSize.toNat ≤ 0x7FFFFFFF ∧ (5 ≤ s.chunkSize.toNat ∧ s.chunkSize.toNat ≤ s.params.chunkBufSize) ∧
      s.retrycount ≠ 0#8 := by
  unfold sendCheck at h
  split at h
  · cases h
  · split at h
    · cases h
    · split at h
      · cases h
      · exact ⟨by omega, by omega, ‹_›⟩

theorem configError_inv {dir : Direction} {d : Detail} (h : s.Resting) (hd : detailFits .configError d = true) :
    ((s.acceptStart dir).configError d).Inv :=
  State.Resting.inv ⟨h.pos, h.memory, h.busy, hd, nofun, (·.elim nofun nofun), h.closed, h.portFree⟩

theorem sendStart_inv (h : s.Resting) : (sendStart s).Inv := by
  unfold sendStart
  dsimp only
  split
  · next d hd => exact configError_inv h (sendCheck_some hd)
  · next hnone =>
    obtain ⟨hfs, ⟨hlo, hhi⟩, hrc⟩ := sendCheck_none hnone
    exact State.Running.inv (p := .sSendBot)
      ⟨h.memory, rfl, ⟨rfl, rfl, rfl⟩, fun _ => ⟨rfl, rfl, rfl, rfl, rfl, hrc, fun _ => ⟨rfl, rfl⟩⟩, Nat.zero_le _⟩
      ⟨⟨rfl, rfl, deriveCounts_sizesFit hlo hhi hfs⟩, h.portFree⟩

theorem receiveStart_inv (h : s.Resting) : (receiveStart s).Inv := by
  unfold receiveStart
  dsimp only
  split
  · exact configError_inv h rfl
  · next hrc =>
    exact State.Running.inv (p := .rAwaitBot)
      ⟨h.memory, rfl, ⟨rfl, rfl, rfl⟩, fun _ => ⟨rfl, rfl, rfl, rfl, rfl, hrc, nofun⟩, Nat.zero_le _⟩
      ⟨⟨rfl, rfl⟩, h.portFree⟩

theorem sendStart_crcAcc (s : State) : (sendStart s).crcAcc = s.crcAcc := by
  unfold sendStart
  dsimp only
  split <;> rfl

theorem receiveStart_crcAcc (s : State) : (receiveStart s).crcAcc = s.crcAcc := by
  unfold receiveStart
  dsimp only
  split <;> rfl

end Start

/-! ### Every turn keeps the invariant -/

section Turns

variable {s t : State}

/-- What the invariant does not read: the queues of the link, the turns, the host's record, CRC_ACC and WERR. -/
theorem State.Inv.of_unread (h : s.Inv) (rxq txq : List Byte) (draws : Nat) (agenda : List Turn) (trace : List Word)
    (crcAcc : Word) (werr : Bool) :
    { s with
      rxq := rxq, txq := txq, draws := draws, agenda := agenda, trace := trace, crcAcc := crcAcc, werr := werr }.Inv :=
  { h with }

theorem lockedWrite_inv {w : State} (h : s.Inv) (hw : s.Resting → w.Inv) : (s.lockedWrite w).Inv := by
  obtain ⟨-, he⟩ | ⟨hb, he⟩ := State.lockedWrite_cases s w
  · rw [he]; exact h.of_unread _ _ _ _ _ _ true
  · rw [he]; exact hw (h.resting hb)

theorem State.HostWrote.inv {i : Instr} (h : s.Inv) (hw : s.HostWrote i t) : t.Inv := by
  cases hb : s.busy with
  | true =>
    have hdone : t.done = s.done := by
      have hd : s.done = false := (h.busy.2 hb).1
      cases ht : t.done with
      | false => exact hd.symm
      | true => rw [hw.done ht]
    rw [hw.locked hb, hdone]
    exact h.of_unread _ _ _ _ _ _ _
  | false =>
    have hr := h.resting hb
    rw [hw.frame]
    exact State.Resting.inv ⟨hr.pos, hr.memory, hr.busy, hr.fits, hr.success, hr.exhausted, hr.closed, hr.portFree⟩

theorem hostAccess_inv {a : HostAccess} (h : s.Inv) (ht : hostAccess a s = .next t) : t.Inv := by
  obtain ⟨i, -, hc, hi⟩ := hostAccess_next ht
  by_cases hs : i = .send
  · subst hs; cases hi
    exact lockedWrite_inv h sendStart_inv
  · by_cases hr : i = .receive
    · subst hr; cases hi
      exact lockedWrite_inv h receiveStart_inv
    · exact (exec_wrote hi hc hs hr).inv h

theorem exec_control_inv {i : Instr} (h : s.Inv) (hi : i.isControl = true) : InvAfter (exec i s) := by
  cases i with
  | eot | lok | ok | rsd | ctrlOther => exact h
  | bot =>
    simp only [exec, execBot]
    split
    · next hp => obtain ⟨hr, hat⟩ := h.session hp nofun; exact senderPeerReady_inv hr hat
    · next hp => obtain ⟨hr, hat⟩ := h.session hp nofun; exact receiverBotSeen_inv hr hat
    · exact h
  | sync =>
    simp only [exec, execSync]
    split
    · next hp => obtain ⟨hr, hat⟩ := h.session hp nofun; exact senderSyncSeen_inv hr hat
    · next hp => obtain ⟨hr, hat⟩ := h.session hp nofun; exact receiverSyncSeen_inv hr hat
    · exact h
  | sok =>
    simp only [exec, execSok]
    split
    · next hp => obtain ⟨hr, hat⟩ := h.session hp nofun; exact senderSok_inv hr hat
    · exact h
  | nok =>
    simp only [exec, execNok]
    split
    · next hp => obtain ⟨hr, hat⟩ := h.session hp nofun; exact senderNok_inv hr hat
    · exact h
  | _ => cases hi

theorem recvControl_inv (h : s.Inv) : InvAfter (recvControl s) := by
  unfold recvControl
  split
  · exact h
  · next b r _ => exact exec_control_inv (h.of_unread r _ _ _ _ _ _) (decodeCtrl_isControl b)

/-- A turn of the block keeps the invariant, at each position by the lemma of its step. -/
theorem blockStep_inv (h : s.Inv) : InvAfter (blockStep s) := by
  by_cases hi : s.pos = .idle
  · rw [blockStep_idle hi]
    exact h
  · obtain ⟨hr, hat⟩ := h.session rfl hi
    unfold blockStep
    generalize s.pos = p at hat
    cases p with
    | idle => exact h
    | sAwaitPeer | sWaitSync | sWaitVerdict | rAwaitBot | rWaitSync => exact recvControl_inv h
    | sSendBot => exact senderSendBot_inv hr hat
    | sHeader => exact senderHeader_inv hr hat
    | sLoad => exact senderLoad_inv hr hat
    | sLoadAns => exact senderLoadAnswer_inv h hr hat
    | sDiscard => exact senderDiscard_inv hr hat
    | sChunk => exact senderChunk_inv hr hat
    | sEchoSync => exact senderEchoSync_inv hr hat
    | sClose => exact senderClose_inv hr hat
    | sCloseAns => exact senderCloseAnswer_inv h hr hat
    | rEchoBot => exact receiverEchoBot_inv hr hat
    | rHeader => exact receiverHeader_inv h hr hat
    | rOpen => exact receiverOpen_inv hr hat
    | rOpenAns => exact receiverOpenAnswer_inv h hr hat
    | rSendEot => exact receiverSendEot_inv hr hat
    | rChunk => exact receiverChunk_inv h hr hat
    | rSendSync => exact receiverSendSync_inv hr hat
    | rSendVerdict => exact receiverSendVerdict_inv hr hat
    | rCommit => exact receiverCommit_inv hr hat
    | rCommitAns => exact receiverCommitAnswer_inv h hr hat
    | rClose => exact receiverClose_inv hr hat
    | rCloseAns => exact receiverCloseAnswer_inv h hr hat

/-- No request is at the host while the block rests. -/
theorem State.Inv.portFree_of_idle (h : s.Inv) (hi : s.pos = .idle) : s.PortFree :=
  (h.resting (Bool.eq_false_iff.2 fun hb => h.busy.1.1 hb hi)).portFree

theorem State.Asks.answered {r : FileRequest} {x : FileAnswer} {file : List Byte} (hr : s.Asks r)
    (hx : r.admits x = true) : { s with answer := some x, sinkFile := file }.Asks r :=
  ⟨hr.1, fun _ hy => Option.some.inj hy ▸ hx⟩

/-- After the answer to SinkAppend the file holds the chunk too, if the answer is Ack (R92; log entry 14). -/
theorem sinkAfter_append_length {l file : List Byte} {x : FileAnswer}
    (hx : (FileRequest.sinkAppend l).admits x = true) :
    (sinkAfter (.sinkAppend l) x file).length = file.length + if some x = some .ack then l.length else 0 := by
  cases x with
  | ack => exact List.length_append
  | ioErr => rfl
  | data => cases hx

theorem hostAnswer_at {r : FileRequest} {x : FileAnswer} {p : Pos} (hat : s.At p) (hr : s.pending = some r)
    (hans : s.answer = none) (hx : r.admits x = true) :
    { s with answer := some x, sinkFile := sinkAfter r x s.sinkFile }.At p := by
  have hfree : ¬ s.PortFree := fun hq => nomatch hq.1.symm.trans hr
  have hreq {q : FileRequest} (hq : s.Asks q) : q = r := Option.some.inj (hq.1.symm.trans hr)
  cases p with
  | idle => exact hat
  | sSendBot | sAwaitPeer | rAwaitBot | rEchoBot => exact absurd hat.2 hfree
  | sHeader | sLoad | sDiscard | sWaitSync | sEchoSync | sWaitVerdict | sChunk | sClose | rHeader | rOpen | rSendEot
  | rSendSync | rWaitSync | rSendVerdict | rChunk | rCommit | rClose => exact absurd hat.2.1 hfree
  | sLoadAns =>
    obtain ⟨hs, hask, ha⟩ := hat
    cases hreq hask
    exact ⟨hs, hask.answered hx, ha⟩
  | sCloseAns =>
    obtain ⟨hs, hask, he⟩ := hat
    cases hreq hask
    exact ⟨hs, hask.answered hx, he⟩
  | rOpenAns =>
    obtain ⟨hs, hask, hsz, -⟩ := hat
    cases hreq hask
    exact ⟨hs, hask.answered hx, hsz, fun hack => by cases hack; rfl⟩
  | rCommitAns =>
    obtain ⟨hs, hask, hc, hfile⟩ := hat
    cases hreq hask
    refine ⟨hs, hask.answered hx, hc, ?_⟩
    rw [hans, if_neg nofun, Nat.add_zero] at hfile
    rw [sinkAfter_append_length hx, hfile, Memory.readRange_length]
  | rCloseAns =>
    obtain ⟨hs, hask, he, hfile⟩ := hat
    cases hreq hask
    cases x <;> exact ⟨hs, hask.answered hx, he, hfile⟩

/-- The host's answer to a request keeps the invariant; an acknowledged SinkOpen or SinkAppend has changed the file
(20_memory.md R92; log entry 14). -/
theorem hostAnswer_inv {x : FileAnswer} (h : s.Inv) (ht : s.hostAnswer x = .next t) : t.Inv := by
  obtain ⟨r, hr, hans, hx, rfl⟩ := State.hostAnswer_next ht
  have hi : s.pos ≠ .idle := fun hi => nomatch (h.portFree_of_idle hi).1.symm.trans hr
  obtain ⟨hrun, hat⟩ := h.session rfl hi
  have hrun' : { s with answer := some x, sinkFile := sinkAfter r x s.sinkFile }.Running := hrun
  exact hrun'.inv (hostAnswer_at hat hr hans hx)

theorem resetBlock_inv (s : State) : s.resetBlock.Inv :=
  State.Resting.inv ⟨rfl, ⟨rfl, rfl, nofun, nofun⟩, rfl, rfl, nofun, (·.elim nofun nofun), rfl, rfl, rfl⟩

/-- A step is the turn of `State.nextTurn`. -/
theorem step_eq_takeTurn (s : State) : step s = takeTurn s.nextTurn { s with agenda := s.agenda.tail } := by
  obtain ⟨hnil, h⟩ | ⟨t, rest, hcons, h⟩ := step_cases s
  · have hs : { s with agenda := s.agenda.tail } = s := by rw [hnil, List.tail_nil, ← hnil]
    rw [h, hs, State.nextTurn, hnil]
    rfl
  · rw [h, State.nextTurn, hcons]
    rfl

/-- Every turn keeps the invariant. -/
theorem takeTurn_inv {u : Turn} (h : s.Inv) (ht : takeTurn u s = .next t) : t.Inv := by
  cases u with
  | block =>
    have hb := blockStep_inv h
    rw [← takeTurn_block, ht] at hb
    exact hb
  | access a => exact hostAccess_inv h ht
  | answer x => exact hostAnswer_inv h ht
  | deliver b => cases ht; exact h.of_unread _ _ _ _ _ _ _
  | reset => cases ht; exact resetBlock_inv s

end Turns

/-- Settles O46, by the turn that the step takes. -/
theorem invariantIsKept : Obligations.InvariantIsKept := by
  intro s t h hstep
  rw [step_eq_takeTurn] at hstep
  exact takeTurn_inv (h.of_unread _ _ _ _ _ _ _) hstep

/-! ### Statements about every step -/

section Steps

variable {s t : State}

/-- What the block's turn leaves alone, said of the result it answers. -/
theorem blockStep_next_moved (h : blockStep s = .next t) : s.BlockMoved t := by
  have hm := blockStep_moved s
  rw [h] at hm
  exact hm

/-- A step in the host's turn: SEND, RECEIVE, or an access that writes as `State.HostWrote` says. -/
theorem hostAccess_cases {a : HostAccess} (h : hostAccess a s = .next t) :
    ((Turn.access a).instr = some .send ∧ t = s.lockedWrite (sendStart s)) ∨
    ((Turn.access a).instr = some .receive ∧ t = s.lockedWrite (receiveStart s)) ∨
    ∃ i, (Turn.access a).instr = some i ∧ s.HostWrote i t := by
  obtain ⟨i, hi, hc, he⟩ := hostAccess_next h
  by_cases hs : i = .send
  · subst hs; cases he; exact .inl ⟨hi, rfl⟩
  · by_cases hr : i = .receive
    · subst hr; cases he; exact .inr (.inl ⟨hi, rfl⟩)
    · exact .inr (.inr ⟨i, hi, exec_wrote he hc hs hr⟩)

theorem lockedWrite_crcAcc {w : State} (hw : w.crcAcc = s.crcAcc) : (s.lockedWrite w).crcAcc = s.crcAcc := by
  obtain ⟨-, he⟩ | ⟨-, he⟩ := State.lockedWrite_cases s w
  · rw [he]; rfl
  · rw [he, hw]

/-- A START while BUSY leaves BUSY (45_host_commands.md R305). -/
theorem lockedWrite_busy_eq (w : State) : (s.lockedWrite w).busy = s.busy ∨ s.busy = false := by
  obtain ⟨-, he⟩ | ⟨hb, -⟩ := State.lockedWrite_cases s w
  · rw [he]; exact .inl rfl
  · exact .inr hb

/-- The turns that may change BUSY: an access that starts a session, a reset, and the block's turn that ends one. -/
theorem takeTurn_busy {u : Turn} (h : takeTurn u s = .next t) :
    t.busy = s.busy ∨ (s.busy = false ∧ (u.instr = some .send ∨ u.instr = some .receive)) ∨
      (t.busy = false ∧ (u = .reset ∨ u = .block ∧ t.done = true ∧ t.pos = .idle)) := by
  cases u with
  | block =>
    obtain ⟨-, hb | ⟨hb, hend⟩⟩ := blockStep_next_moved h
    · exact .inl hb
    · exact .inr (.inr ⟨hb, .inr ⟨rfl, hend⟩⟩)
  | access a =>
    obtain ⟨hi, rfl⟩ | ⟨hi, rfl⟩ | ⟨i, -, hw⟩ := hostAccess_cases h
    · exact (lockedWrite_busy_eq _).imp id fun hb => .inl ⟨hb, .inl hi⟩
    · exact (lockedWrite_busy_eq _).imp id fun hb => .inl ⟨hb, .inr hi⟩
    · exact .inl hw.busy_eq
  | answer x =>
    obtain ⟨r, -, -, -, rfl⟩ := State.hostAnswer_next h
    exact .inl rfl
  | deliver b => cases h; exact .inl rfl
  | reset => cases h; exact .inr (.inr ⟨rfl, .inl rfl⟩)

/-- The turns that may change CRC_ACC: CRC_CLEAR, CRC_UPDATE and a reset (40_crc32.md R150). -/
theorem takeTurn_crcAcc {u : Turn} (h : takeTurn u s = .next t) :
    t.crcAcc = s.crcAcc ∨ u = .reset ∨ u.instr = some .crcClear ∨ ∃ data, u.instr = some (.crcUpdate data) := by
  cases u with
  | block =>
    obtain ⟨hside, -⟩ := blockStep_next_moved h
    have hacc : t.hostSide.crcAcc = s.hostSide.crcAcc := by rw [hside]
    exact .inl hacc
  | access a =>
    obtain ⟨-, rfl⟩ | ⟨-, rfl⟩ | ⟨i, hi, hw⟩ := hostAccess_cases h
    · exact .inl (lockedWrite_crcAcc (sendStart_crcAcc s))
    · exact .inl (lockedWrite_crcAcc (receiveStart_crcAcc s))
    · obtain hacc | rfl | ⟨data, rfl⟩ := hw.crcAcc
      · exact .inl hacc
      · exact .inr (.inr (.inl hi))
      · exact .inr (.inr (.inr ⟨data, hi⟩))
  | answer x =>
    obtain ⟨r, -, -, -, rfl⟩ := State.hostAnswer_next h
    exact .inl rfl
  | deliver b => cases h; exact .inl rfl
  | reset => exact .inr (.inl rfl)

/-- At rest only a START or a reset writes the results of the last session (10_state.md R62). -/
theorem takeTurn_results {u : Turn} (hr : s.Resting) (h : takeTurn u s = .next t) (hreset : u ≠ .reset)
    (hsend : u.instr ≠ some .send) (hrecv : u.instr ≠ some .receive) :
    t.res = s.res ∧ t.outcome = s.outcome ∧ t.exhausted = s.exhausted := by
  cases u with
  | block =>
    rw [takeTurn_block, blockStep_idle hr.pos] at h
    cases h
    exact ⟨rfl, rfl, rfl⟩
  | access a =>
    obtain ⟨hi, -⟩ | ⟨hi, -⟩ | ⟨i, -, hw⟩ := hostAccess_cases h
    · exact absurd hi hsend
    · exact absurd hi hrecv
    · rw [hw.frame]
      exact ⟨rfl, rfl, rfl⟩
  | answer x =>
    obtain ⟨r, hp, -⟩ := State.hostAnswer_next h
    cases hp.symm.trans hr.portFree.1
  | deliver b => cases h; exact ⟨rfl, rfl, rfl⟩
  | reset => exact absurd rfl hreset

end Steps

/-- Settles O48, by the turns that may change BUSY. -/
theorem busyRisesAndFalls : Obligations.BusyRisesAndFalls := by
  intro s t h
  rw [step_eq_takeTurn] at h
  obtain hb | ⟨hb, hstart⟩ | ⟨hb, hend⟩ := takeTurn_busy h
  · constructor
    · intro h0 h1
      cases h1.symm.trans (hb.trans h0)
    · intro h1 h0
      cases h0.symm.trans (hb.trans h1)
  · refine ⟨fun _ _ => hstart, fun h1 _ => ?_⟩
    cases h1.symm.trans hb
  · refine ⟨fun _ h1 => ?_, fun _ _ => hend⟩
    cases h1.symm.trans hb

/-- Settles O49, by the turns that may change CRC_ACC. -/
theorem crcAccIsTheHostChannelsAlone : Obligations.CrcAccIsTheHostChannelsAlone := by
  intro s t h hne
  rw [step_eq_takeTurn] at h
  exact (takeTurn_crcAcc h).resolve_left hne

/-- Settles O52, by the turns that a resting block may see. -/
theorem resultsStayAfterTheSession : Obligations.ResultsStayAfterTheSession := by
  intro s t hinv hb h hreset hsend hrecv
  rw [step_eq_takeTurn] at h
  have hr : { s with agenda := s.agenda.tail }.Resting := (hinv.of_unread _ _ _ _ _ _ _).resting hb
  exact takeTurn_results (s := { s with agenda := s.agenda.tail }) hr h hreset hsend hrecv

end Sys2Proof.Machine
end

section
/-! The statements about the register values: STATUS and the other fields, the name buffer, and reset. -/

namespace Sys2Proof.Machine

/-! ### The name buffer -/

/-- Byte `8 r` of a word is byte `r` of its `le32` (00_scope.md R10). -/
theorem le32_getElem? (x : Word) {r : Nat} (hr : r < 4) : (le32 x)[r]? = some (x.extractLsb' (8 * r) 8) := by
  match r, hr with
  | 0, _ | 1, _ | 2, _ | 3, _ => rfl

/-- Byte `4 q + r` of a run of words is byte `r` of word `q`. -/
theorem flatMap_le32_getElem? {r : Nat} (hr : r < 4) :
    ∀ (l : List Word) (q : Nat), (l.flatMap le32)[4 * q + r]? = l[q]?.map fun x => x.extractLsb' (8 * r) 8
  | [], _ => rfl
  | x :: l, 0 => by
    rw [List.flatMap_cons, List.getElem?_append_left (by rw [le32_length]; omega), Nat.mul_zero, Nat.zero_add,
      le32_getElem? x hr]
    rfl
  | x :: l, q + 1 => by
    rw [List.flatMap_cons, List.getElem?_append_right (by rw [le32_length]; omega), le32_length,
      show 4 * (q + 1) + r - 4 = 4 * q + r by omega, flatMap_le32_getElem? hr l q, List.getElem?_cons_succ]

/-- Byte `4 q + r` of the name buffer is byte lane `r` of NAME`q` (10_state.md R59). -/
theorem nameBytes_getElem? (name : Vector Word 16) {q r : Nat} (hq : q < 16) (hr : r < 4) :
    (nameBytes name)[4 * q + r]? = some (name[q].extractLsb' (8 * r) 8) := by
  rw [nameBytes, flatMap_le32_getElem? hr]
  simp [hq]

theorem nameBytes_getD (name : Vector Word 16) {q r : Nat} (hq : q < 16) (hr : r < 4) :
    (nameBytes name).getD (4 * q + r) 0#8 = name[q].extractLsb' (8 * r) 8 := by
  rw [List.getD_eq_getElem?_getD, nameBytes_getElem? name hq hr, Option.getD_some]

/-- Byte lane `r` of the word at byte `a` of `s` is byte `a + r` of `s` (20_memory.md R88). -/
theorem fromLe32_lane (s : List Byte) (a : Nat) {r : Nat} (hr : r < 4) :
    (fromLe32 s a).extractLsb' (8 * r) 8 = s.getD (a + r) 0#8 := by
  match r, hr with
  | 0, _ => exact wordOfBytes_byte0 ..
  | 1, _ => exact wordOfBytes_byte1 ..
  | 2, _ => exact wordOfBytes_byte2 ..
  | 3, _ => exact wordOfBytes_byte3 ..

theorem nameOfBytes_nameBytes (name : Vector Word 16) : nameOfBytes (nameBytes name) = name := by
  ext1 q hq
  have lane {r : Nat} (hr : r < 4) := nameBytes_getD name hq hr
  have lane0 := lane (r := 0) (by omega)
  rw [Nat.add_zero] at lane0
  rw [nameOfBytes, Vector.getElem_ofFn, fromLe32, lane0, lane (by omega), lane (by omega), lane (by omega)]
  exact wordOfBytes_split name[q]

theorem nameBytes_nameOfBytes {s : List Byte} (hs : s.length = 64) : nameBytes (nameOfBytes s) = s := by
  refine List.ext_getElem? fun j => ?_
  by_cases hj : j < 64
  · have hq : j / 4 < 16 := by omega
    have hr := Nat.mod_lt j (show 0 < 4 by omega)
    have lane := nameBytes_getElem? (nameOfBytes s) hq hr
    rw [Nat.div_add_mod] at lane
    rw [lane, nameOfBytes, Vector.getElem_ofFn, fromLe32_lane _ _ hr, Nat.div_add_mod,
      List.getD_eq_getElem?_getD, List.getElem?_eq_getElem (hs ▸ hj), Option.getD_some]
  · rw [List.getElem?_eq_none (by rw [nameBytes_length]; omega), List.getElem?_eq_none (by omega)]

/-- Settles O22, from the lanes of the name buffer. -/
theorem nameBufferLanes : Obligations.NameBufferLanes := by
  refine ⟨fun name => ⟨nameBytes_length name, fun j hj => ?_, nameOfBytes_nameBytes name⟩,
    fun s hs => nameBytes_nameOfBytes hs⟩
  have lane := nameBytes_getElem? name (q := j / 4) (r := j % 4) (by omega) (by omega)
  rwa [Nat.div_add_mod] at lane

/-! ### STATUS -/

section Status

variable (s : State)

/-- The bits of STATUS, from bit 0 up (10_state.md R35). -/
theorem statusWord_getLsbD {i : Nat} (hi : i < 32) : s.statusWord.getLsbD i =
    if i < 1 then (BitVec.ofBool s.busy).getLsbD i
    else if i < 2 then (BitVec.ofBool s.done).getLsbD (i - 1)
    else if i < 3 then (BitVec.ofBool s.werr).getLsbD (i - 2)
    else if i < 4 then (BitVec.ofBool s.exhausted).getLsbD (i - 3)
    else if 8 ≤ i ∧ i < 12 then s.outcome.code.getLsbD (i - 8)
    else if 16 ≤ i ∧ i < 20 then s.pos.stateCode.getLsbD (i - 16)
    else decide (i = 20) && s.dir.bit.getLsbD 0 := by
  simp only [State.statusWord, BitVec.getLsbD_append]
  interval_cases i <;> simp

theorem statusWord_flags : s.statusWord.getLsbD 0 = s.busy ∧ s.statusWord.getLsbD 1 = s.done ∧
    s.statusWord.getLsbD 2 = s.werr ∧ s.statusWord.getLsbD 3 = s.exhausted := by
  refine ⟨?_, ?_, ?_, ?_⟩ <;> rw [statusWord_getLsbD s (by omega)] <;> simp

theorem statusWord_outcome : s.statusWord.extractLsb' 8 4 = s.outcome.code := by
  ext i hi
  rw [BitVec.getElem_extractLsb', statusWord_getLsbD s (by omega)]
  interval_cases i <;> simp

theorem statusWord_state : s.statusWord.extractLsb' 16 4 = s.pos.stateCode := by
  ext i hi
  rw [BitVec.getElem_extractLsb', statusWord_getLsbD s (by omega)]
  interval_cases i <;> simp

theorem statusWord_dir : s.statusWord.getLsbD 20 = decide (s.dir = .receive) := by
  rw [statusWord_getLsbD s (by omega)]
  cases s.dir <;> rfl

/-- The reserved bits of STATUS read 0 (10_state.md R61). -/
theorem statusWord_reserved : s.statusWord &&& 0xFFE0F0F0#32 = 0#32 := by
  refine BitVec.eq_of_getLsbD_eq fun i hi => ?_
  rw [BitVec.getLsbD_and, statusWord_getLsbD s hi]
  interval_cases i <;> simp

end Status

/-! ### Codes and reserved bits -/

theorem SessionOutcome.code_le (o : SessionOutcome) : o.code.toNat ≤ 6 := by
  cases o <;> decide

theorem Pos.stateCode_le (p : Pos) : p.stateCode.toNat ≤ 14 := by
  cases p <;> simp [Pos.stateCode]

theorem Pos.stateCode_eq_zero_iff (p : Pos) : p.stateCode = 0#4 ↔ p = .idle := by
  cases p <;> simp [Pos.stateCode]

/-- A register of `n` bits reads 0 in the bits from `n` on (10_state.md R61). -/
theorem readExtend_and {n : Nat} (v : BitVec n) {m : Word} (hm : ∀ i < n, m.getLsbD i = false) :
    readExtend v &&& m = 0#32 := by
  refine BitVec.eq_of_getLsbD_eq fun i _ => ?_
  rw [readExtend, BitVec.getLsbD_and, BitVec.getLsbD_setWidth, BitVec.getLsbD_zero]
  by_cases hi : i < n
  · rw [hm i hi, Bool.and_false]
  · rw [BitVec.getLsbD_of_ge v i (by omega), Bool.and_false, Bool.false_and]

/-- Words that agree on their `n` low bits give the same operand of `n` bits (30_encoding.md R121). -/
theorem setWidth_eq_of_and_eq {n : Nat} {v w m : Word} (h : v &&& m = w &&& m) (hm : ∀ i < n, m.getLsbD i = true) :
    v.setWidth n = w.setWidth n := by
  refine BitVec.eq_of_getLsbD_eq fun i hi => ?_
  have hbit := congrArg (BitVec.getLsbD · i) h
  simpa [hi, hm i hi] using hbit

theorem getLsbD_eq_of_and_eq {v w m : Word} (h : v &&& m = w &&& m) {i : Nat} (hm : m.getLsbD i = true) :
    v.getLsbD i = w.getLsbD i := by
  have hbit := congrArg (BitVec.getLsbD · i) h
  simpa [hm] using hbit

/-- Bits 7:0 of ERRINFO are the detail code (10_state.md R58). -/
theorem errinfo_code (d : Detail) : (readExtend d.code).extractLsb' 0 8 = d.code := by
  cases d <;> rfl

/-- The details of R332 are the codes that ERRINFO reads. -/
theorem errinfo_mem (d : Detail) :
    (readExtend d.code).toNat ∈
      [0x00, 0x01, 0x02, 0x03, 0x04, 0x11, 0x12, 0x13, 0x14, 0x21, 0x22, 0x23, 0x31] := by
  cases d <;> decide

theorem wrCtrl_ignores_reserved {v w : Word} (s : State) (h : v &&& 0xF#32 = w &&& 0xF#32) :
    exec (.wrCtrl v) s = exec (.wrCtrl w) s := by
  have hop : ctrlOperand v = ctrlOperand w := setWidth_eq_of_and_eq h (by decide)
  simp only [exec, execWrCtrl, hop]

theorem wrRetrycount_ignores_reserved {v w : Word} (s : State) (h : v &&& 0xFF#32 = w &&& 0xFF#32) :
    exec (.wrRetrycount v) s = exec (.wrRetrycount w) s := by
  have hop : retrycountOperand v = retrycountOperand w := setWidth_eq_of_and_eq h (by decide)
  simp only [exec, execWrRetrycount, hop]

theorem wrStatus_ignores_reserved {v w : Word} (s : State) (h : v &&& 0x1F0F0F#32 = w &&& 0x1F0F0F#32) :
    exec (.wrStatus v) s = exec (.wrStatus w) s := by
  have h1 := getLsbD_eq_of_and_eq h (i := 1) rfl
  have h2 := getLsbD_eq_of_and_eq h (i := 2) rfl
  simp only [exec, execWrStatus, h1, h2]

/-- A write at the offset of RETRY_CNT or of ERRINFO decodes to WR_IGNORED (10_state.md R32). -/
theorem decode_write_readOnly {off : BitVec 8} (hoff : off = 0x34#8 ∨ off = 0x60#8) (v : Word) :
    decode (.bus (busDesc true off v)) = .ok (.wrIgnored off v) := by
  rcases hoff with rfl | rfl <;> simp [decode, decodeBus, decodeWrite]

/-- Settles O20, field by field. -/
theorem statusFieldsAndReservedBits : Obligations.StatusFieldsAndReservedBits := by
  refine ⟨fun s => ?_, fun o => ?_, fun d => ?_, fun p => ?_, fun s v w => ?_⟩
  · obtain ⟨hbusy, hdone, hwerr, hexh⟩ := statusWord_flags s
    exact ⟨hbusy, hdone, hwerr, hexh, statusWord_outcome s, statusWord_state s, statusWord_dir s, s.outcome.code_le,
      s.pos.stateCode_le, s.pos.stateCode_eq_zero_iff, rfl, statusWord_reserved s,
      readExtend s.ctrl, readExtend s.retrycount, readExtend s.res.retryCnt, readExtend s.res.errinfo.code,
      rfl, readExtend_and _ (by decide), rfl, readExtend_and _ (by decide), rfl, readExtend_and _ (by decide),
      rfl, readExtend_and _ (by decide), errinfo_code _, errinfo_mem _⟩
  · cases o <;> rfl
  · cases d <;> rfl
  · cases p <;> rfl
  · exact ⟨wrCtrl_ignores_reserved s, wrRetrycount_ignores_reserved s, wrStatus_ignores_reserved s,
      decode_write_readOnly (.inl rfl) v, rfl, decode_write_readOnly (.inr rfl) v, rfl⟩

/-! ### Reset -/

/-- The free parameters are inside their ranges (00_scope.md R7). -/
theorem params_legal : Config.params.Legal := by
  have hrc := Config.freeRetrycount.isLt
  have hbuf := Config.freeChunkBuf.isLt
  have hmod := Nat.mod_lt Config.freeChunkSize (show 0 < Config.chunkBufSize - 4 by simp [Config.chunkBufSize])
  simp only [Config.Params.Legal, Config.params, BitVec.toNat_ofNat]
  simp only [Config.chunkBufSize] at hmod ⊢
  omega

/-- The defaults pass SEND's start checks (00_scope.md R7, 45_host_commands.md R300). -/
theorem reset_sendCheck : sendCheck State.reset = none := by
  obtain ⟨hrc, -, -, hlo, hhi⟩ := params_legal
  have hsize : ¬ (0x7FFFFFFF < State.reset.fileSize.toNat) := by decide
  have hchunk : ¬ (State.reset.chunkSize.toNat < 5 ∨ State.reset.params.chunkBufSize < State.reset.chunkSize.toNat) := by
    rintro (h | h)
    · exact absurd hlo (Nat.not_le.2 h)
    · exact absurd hhi (Nat.not_le.2 h)
  have hretry : State.reset.retrycount ≠ 0#8 := by
    intro h
    have h0 : Config.params.retrycountDefault = 0#8 := h
    rw [h0] at hrc
    exact absurd hrc (by decide)
  have hname : hasNul (nameBytes State.reset.name) = true := by decide +kernel
  simp [sendCheck, hsize, hchunk, hretry, hname]

theorem reset_crcOut : crcFinal State.reset.cfgNow State.reset.crcAcc = 0#32 := by decide +kernel

theorem reset_nameWord (k : BitVec 4) : nameWord State.reset.name k = 0#32 := by
  simp [nameWord, State.reset]

/-- A read from reset puts its value alone into the host's record. -/
theorem reset_read {i : Instr} {v w : Word} (hi : exec i State.reset = .next (State.reset.hostReturn v)) (hv : v = w) :
    exec i State.reset = .next { State.reset with trace := [w] } := by
  rw [hi, hv]
  rfl

/-- SEND from reset starts a session of no bytes (45_host_commands.md R300). -/
theorem reset_send : exec .send State.reset =
    .next (senderEntry { State.reset.acceptStart .send with busy := true }) := by
  have hidle : State.reset.lockedWrite (sendStart State.reset) = sendStart State.reset := State.lockedWrite_idle rfl
  rw [exec, execSend, hidle, sendStart, reset_sendCheck]

/-- Settles O44, register by register. -/
theorem resetValues : Obligations.ResetValues := by
  obtain ⟨hrc, -, -, hlo, hhi⟩ := params_legal
  refine ⟨?_, fun k => reset_read rfl (reset_nameWord k), ?_, ?_⟩
  · simp only [List.forall_mem_cons, List.not_mem_nil, false_imp_iff, implies_true, and_true]
    have hcrc := reset_read (i := .rdCrcOut) rfl reset_crcOut
    refine ⟨rfl, rfl, rfl, rfl, rfl, rfl, rfl, rfl, rfl, hcrc, rfl, rfl, rfl, rfl, rfl, rfl, rfl, rfl, rfl, rfl, rfl,
      rfl, rfl⟩
  · have hread : (readExtend State.reset.retrycount).toNat = Config.params.retrycountDefault.toNat :=
      BitVec.toNat_setWidth_of_le (by omega)
    have hmax := Config.params.retrycountDefault.isLt
    exact ⟨_, _, reset_read rfl rfl, by omega, by omega, reset_read rfl rfl, hlo, hhi⟩
  · refine ⟨_, reset_send, rfl, rfl, rfl, ?_, ?_⟩
    · exact BitVec.zero_udiv
    · exact BitVec.zero_umod

end Sys2Proof.Machine
end

section
/-! The statements about the host's accesses and answers, and about the holds of the block. -/

namespace Sys2Proof

/-! ### What an aligned descriptor decodes to -/

theorem decodeCommand_wellFormed (data : Word) : (decodeCommand data).WellFormed = true := by
  unfold decodeCommand
  split
  · rfl
  · split
    · rfl
    · split
      · rfl
      · exact decide_eq_true ⟨‹_›, ‹_›, ‹_›⟩

/-- Bits 7:6 of an offset are `2` exactly in the name buffer, 0x80 to 0xBC (10_state.md R59). -/
theorem nameOffset_top_iff (off : BitVec 8) :
    off.extractLsb' 6 2 = 2#2 ↔ 0x80 ≤ off.toNat ∧ off.toNat < 0xC0 := by
  have hoff := off.isLt
  rw [← BitVec.toNat_inj, BitVec.extractLsb'_toNat, Nat.shiftRight_eq_div_pow, BitVec.toNat_ofNat]
  omega

theorem decodeWrite_wellFormed {off : BitVec 8} (data : Word) (h : off.toNat % 4 = 0) :
    (decodeWrite off data).WellFormed = true := by
  unfold decodeWrite
  split
  case h_2 => exact decodeCommand_wellFormed data
  case h_11 =>
    split
    · rfl
    · next hname =>
      simp only [imp_false, nameOffset_top_iff] at *
      exact decide_eq_true (p := ignoredOffset off) ⟨h, by simp only [unmappedOffset]; omega⟩
  all_goals rfl

theorem decodeRead_wellFormed {off : BitVec 8} (h : off.toNat % 4 = 0) : (decodeRead off).WellFormed = true := by
  unfold decodeRead
  split
  case h_26 =>
    split
    · rfl
    · next hname =>
      simp only [imp_false, nameOffset_top_iff] at *
      exact decide_eq_true (p := unmappedOffset off) ⟨h, by omega⟩
  all_goals rfl

/-- The descriptor of an aligned access decodes to the row of its offset. -/
theorem decode_busDesc {off : BitVec 8} (h : off.toNat % 4 = 0) (w : Bool) (data : Word) :
    decode (.bus (busDesc w off data)) = .ok (if w then decodeWrite off data else decodeRead off) := by
  cases w <;> simp [decode, decodeBus, h]

/-- An aligned access decodes to a well-formed instruction (20_memory.md R82). -/
theorem decode_busDesc_wellFormed {off : BitVec 8} (h : off.toNat % 4 = 0) (w : Bool) (data : Word) :
    ∃ i : Instr, i.WellFormed = true ∧ decode (.bus (busDesc w off data)) = .ok i := by
  refine ⟨_, ?_, decode_busDesc h w data⟩
  cases w
  · exact decodeRead_wellFormed h
  · exact decodeWrite_wellFormed data h

namespace Machine

/-- The descriptor of an admitted access decodes to a well-formed instruction. -/
theorem decode_admitted {a : HostAccess} (ha : a.admitted = true) :
    ∃ i : Instr, i.WellFormed = true ∧ decode a.code = .ok i := by
  obtain ⟨-, haligned, hwindow⟩ := a.admitted_iff.1 ha
  refine decode_busDesc_wellFormed ?_ _ _
  rw [BitVec.toNat_ofNat, Nat.mod_eq_of_lt hwindow]
  exact haligned

/-- Settles O4: an admitted access is decoded and run. -/
theorem hostAccessAdmission : Obligations.HostAccessAdmission := by
  intro a s
  rw [← HostAccess.admitted_iff]
  constructor
  · intro ha
    obtain ⟨i, hwf, hd⟩ := decode_admitted ha
    exact ⟨i, hwf, hd, hostAccess_admitted ha hd⟩
  · intro ha
    exact hostAccess_notAdmitted (Bool.eq_false_iff.2 ha)

/-- Settles O5, by the turn that the step takes. -/
theorem stepRunsTheDecodedInstruction : Obligations.StepRunsTheDecodedInstruction := by
  constructor
  · intro s a rest i hag ha hd
    rw [step_cons hag, takeTurn_access, hostAccess_admitted ha hd]
  · intro s b r i hturn hwait hq hd
    cases hd
    rw [step_eq_takeTurn, hturn, takeTurn_block]
    exact blockStep_control (s := { s with agenda := s.agenda.tail }) hwait hq

/-! ### Reads -/

/-- A read returns a value to the host that depends neither on the coming turns nor on what was read before, and does
nothing else (20_memory.md R84). -/
theorem exec_decodeRead (off : BitVec 8) :
    ∃ value : State → Word, (∀ s, exec (decodeRead off) s = .next (s.hostReturn (value s))) ∧
      ∀ s agenda trace, value { s with agenda := agenda, trace := trace } = value s := by
  unfold decodeRead
  repeat' split
  all_goals exact ⟨_, fun _ => rfl, fun _ _ _ => rfl⟩

theorem hostAccess_readAccess {off : BitVec 8} (h : off.toNat % 4 = 0) (s : State) :
    hostAccess (readAccess off) s = exec (decodeRead off) s := by
  have hd : decode (readAccess off).code = .ok (decodeRead off) := by
    rw [HostAccess.code, readAccess, BitVec.ofNat_toNat, BitVec.setWidth_eq]
    exact decode_busDesc h false 0#32
  exact hostAccess_admitted ((readAccess off).admitted_iff.2 ⟨rfl, h, off.isLt⟩) hd

/-- A run of reads of one offset returns one value each time (20_memory.md R84). -/
theorem runSteps_reads {off : BitVec 8} (hoff : off.toNat % 4 = 0) {value : State → Word}
    (hexec : ∀ s, exec (decodeRead off) s = .next (s.hostReturn (value s)))
    (hvalue : ∀ s agenda trace, value { s with agenda := agenda, trace := trace } = value s) (rest : List Turn) :
    ∀ (n : Nat) (s : State), s.agenda = accessTurns (List.replicate n (readAccess off)) ++ rest →
      runSteps n s = .next { s with agenda := rest, trace := s.trace ++ List.replicate n (value s) }
  | 0, s, hag => by
    have hrest : s.agenda = rest := hag
    rw [List.replicate_zero, List.append_nil, ← hrest, runSteps_zero]
  | n + 1, s, hag => by
    have hstep := step_cons (s := s) hag
    rw [takeTurn_access, hostAccess_readAccess hoff, hexec, hvalue s _ s.trace] at hstep
    rw [runSteps_next hstep, runSteps_reads hoff hexec hvalue rest n _ rfl, hvalue]
    simp [State.hostReturn, List.replicate_succ, hvalue]

/-- Settles O21, by the run of reads. -/
theorem readsChangeNothing : Obligations.ReadsChangeNothing := by
  intro s off hoff
  obtain ⟨value, hexec, hvalue⟩ := exec_decodeRead off
  refine ⟨value s, fun n rest => ?_⟩
  rw [runSteps_reads hoff hexec hvalue rest n _ rfl, hvalue s _ s.trace]

/-! ### Holds and answers -/

/-- A handshake wait on an empty `rxq` changes nothing (20_memory.md R90). -/
theorem blockStep_wait_hold {s : State} (hwait : s.pos.handshakeWait = true) (hq : s.rxq = []) :
    blockStep s = .next s := by
  rw [blockStep_wait hwait, recvControl_nil hq]

/-- Settles O25, position by position. -/
theorem holdsChangeNothing : Obligations.HoldsChangeNothing := by
  refine fun s => ⟨blockStep_idle, fun hq hpos => ?_, fun ha hpos => ?_⟩
  · obtain hp | hp | hp | hp | hp | ⟨k, hp⟩ | ⟨k, hp⟩ := hpos
    · exact blockStep_wait_hold (congrArg Pos.handshakeWait hp) hq
    · exact blockStep_wait_hold (congrArg Pos.handshakeWait hp) hq
    · exact blockStep_wait_hold (congrArg Pos.handshakeWait hp) hq
    · exact blockStep_wait_hold (congrArg Pos.handshakeWait hp) hq
    · exact blockStep_wait_hold (congrArg Pos.handshakeWait hp) hq
    · simp only [blockStep, hp, receiverHeader, hq]
    · simp only [blockStep, hp, receiverChunk, hq]
  · obtain hp | ⟨e, hp⟩ | hp | hp | ⟨e, hp⟩ := hpos <;>
    · simp only [blockStep, hp]
      exact State.takeAnswer_hold ha

section Answers

variable {s : State} {r : FileRequest} {x : FileAnswer}

/-- An answer that the waiting request admits is kept, and the file is then as the answer leaves it. -/
theorem hostAnswer_admitted (hr : s.pending = some r) (ha : s.answer = none) (hx : r.admits x = true) :
    s.hostAnswer x = .next { s with answer := some x, sinkFile := sinkAfter r x s.sinkFile } := by
  simp [State.hostAnswer, hr, ha, hx]

theorem hostAnswer_notAdmitted (hr : s.pending = some r) (ha : s.answer = none) (hx : r.admits x = false) :
    s.hostAnswer x = .refused .answerNotAdmitted := by
  simp [State.hostAnswer, hr, ha, hx]

/-- An answer that no request waits for is refused (20_memory.md R92, 70_reset_and_hazards.md R371). -/
theorem hostAnswer_notAwaited (h : s.pending = none ∨ s.answer ≠ none) :
    s.hostAnswer x = .refused .answerWithoutRequest := by
  unfold State.hostAnswer
  split
  · next r hr ha => simp [hr, ha] at h
  · rfl

end Answers

/-- Settles O26, request by request. -/
theorem hostAnswersAdmitted : Obligations.HostAnswersAdmitted := by
  refine fun s => ⟨fun off n b hr ha => ⟨fun hb => ?_, fun hb => ?_, ?_, ?_⟩, fun hr ha => ?_,
    fun name hr ha => ⟨?_, ?_, fun b => ?_⟩, fun bytes hr ha => ⟨?_, ?_, fun b => ?_⟩, fun h x => ?_⟩
  · exact hostAnswer_admitted hr ha (by simpa using hb)
  · exact hostAnswer_notAdmitted hr ha (by simpa using hb)
  · exact hostAnswer_admitted hr ha rfl
  · exact hostAnswer_notAdmitted hr ha rfl
  · obtain hr | hr := hr <;>
    exact ⟨hostAnswer_admitted hr ha rfl, hostAnswer_notAdmitted hr ha rfl,
      fun b => hostAnswer_notAdmitted hr ha rfl⟩
  · exact hostAnswer_admitted hr ha rfl
  · exact hostAnswer_admitted hr ha rfl
  · exact hostAnswer_notAdmitted hr ha rfl
  · exact hostAnswer_admitted hr ha rfl
  · exact hostAnswer_admitted hr ha rfl
  · exact hostAnswer_notAdmitted hr ha rfl
  · exact hostAnswer_notAwaited h

end Machine
end Sys2Proof
end

section
/-! From a state of the invariant every turn of the block answers a next state. -/

namespace Sys2Proof.Machine

section Answers

variable {s : State}

/-- Every instruction answers a next state in every state. -/
theorem exec_answers (i : Instr) (s : State) : ∃ t, exec i s = .next t := by
  cases i <;> exact ⟨_, rfl⟩

theorem recvControl_answers (s : State) : ∃ t, recvControl s = .next t := by
  cases hq : s.rxq with
  | nil => exact ⟨s, recvControl_nil hq⟩
  | cons b r =>
    rw [recvControl_cons hq]
    exact exec_answers _ _

/-- Taking an answer holds, or goes on with an answer that the waiting request admits (20_memory.md R92). -/
theorem takeAnswer_answers {r : FileRequest} {k : State → FileAnswer → Result} (hask : s.Asks r)
    (hk : ∀ x, r.admits x = true → ∃ t, k s.portDone x = .next t) : ∃ t, s.takeAnswer k = .next t := by
  obtain ⟨hr, hadm⟩ := hask
  cases ha : s.answer with
  | none => exact ⟨s, State.takeAnswer_hold ha⟩
  | some x =>
    rw [State.takeAnswer_some ha hr (hadm x ha)]
    exact hk x (hadm x ha)

/-! ### The steps that address HBUF or BUF -/

theorem senderHeader_answers {k : Nat} (hk : k < hdrSize) : ∃ t, senderHeader s k = .next t := ⟨_, if_pos hk⟩

theorem senderChunk_answers {k : Nat} (hk : k < s.params.chunkBufSize) : ∃ t, senderChunk s k = .next t :=
  ⟨_, if_pos hk⟩

theorem receiverHeader_answers {k : Nat} (hk : k < hdrSize) : ∃ t, receiverHeader s k = .next t := by
  unfold receiverHeader
  split
  · exact ⟨s, rfl⟩
  · exact ⟨_, if_pos hk⟩

theorem receiverChunk_answers {k : Nat} (hk : k < s.params.chunkBufSize) : ∃ t, receiverChunk s k = .next t := by
  unfold receiverChunk
  split
  · exact ⟨s, rfl⟩
  · exact ⟨_, if_pos hk⟩

theorem receiverCommit_answers (hfit : s.chunkBytes ≤ s.params.chunkBufSize) : ∃ t, receiverCommit s = .next t :=
  ⟨_, if_pos hfit⟩

/-! ### The steps that take the host's answer -/

theorem senderLoadAnswer_answers {off : Word} {x : FileAnswer} (hfit : s.chunkBytes ≤ s.params.chunkBufSize)
    (hx : (FileRequest.srcRead off s.sess.len).admits x = true) : ∃ t, senderLoadAnswer s x = .next t := by
  cases x with
  | ack => cases hx
  | ioErr => exact ⟨_, rfl⟩
  | data payload =>
    have hlen : payload.length = s.sess.len.toNat := by simpa using hx
    exact ⟨_, (if_pos hlen).trans (if_pos hfit)⟩

theorem senderCloseAnswer_answers {e : Ending} {x : FileAnswer} (hx : FileRequest.srcClose.admits x = true) :
    ∃ t, senderCloseAnswer s e x = .next t := by
  cases x with
  | ack => exact ⟨_, rfl⟩
  | data | ioErr => cases hx

theorem receiverOpenAnswer_answers {name : List Byte} {x : FileAnswer}
    (hx : (FileRequest.sinkOpen name).admits x = true) : ∃ t, receiverOpenAnswer s x = .next t := by
  cases x with
  | ack | ioErr => exact ⟨_, rfl⟩
  | data => cases hx

theorem receiverCommitAnswer_answers {bytes : List Byte} {x : FileAnswer}
    (hx : (FileRequest.sinkAppend bytes).admits x = true) : ∃ t, receiverCommitAnswer s x = .next t := by
  cases x with
  | ack | ioErr => exact ⟨_, rfl⟩
  | data => cases hx

theorem receiverCloseAnswer_answers {e : Ending} {x : FileAnswer} (hx : FileRequest.sinkClose.admits x = true) :
    ∃ t, receiverCloseAnswer s e x = .next t := by
  cases x with
  | ack => exact ⟨_, rfl⟩
  | data | ioErr => cases hx

theorem receiverSendVerdict_answers (s : State) : ∃ t, receiverSendVerdict s = .next t := by
  unfold receiverSendVerdict
  split <;> exact ⟨_, rfl⟩

/-! ### Every turn -/

/-- A turn of the block always answers a next state: the invariant keeps every address inside HBUF and BUF, and the
answer taken is one the request admits (10_state.md R64, 20_memory.md R92). -/
theorem blockStep_answers (h : s.Inv) : ∃ t, blockStep s = .next t := by
  by_cases hi : s.pos = .idle
  · exact ⟨s, blockStep_idle hi⟩
  · obtain ⟨-, hat⟩ := h.session rfl hi
    unfold blockStep
    generalize s.pos = p at hat
    cases p with
    | sAwaitPeer | sWaitSync | sWaitVerdict | rAwaitBot | rWaitSync => exact recvControl_answers s
    | sHeader k =>
      obtain ⟨-, -, hk⟩ := hat
      exact senderHeader_answers hk
    | sLoadAns =>
      obtain ⟨hs, hask, ha⟩ := hat
      exact takeAnswer_answers hask fun x hx =>
        senderLoadAnswer_answers (s := s.portDone) (hs.sizesFit.chunkBytes_le ha.chunkFits) hx
    | sChunk k =>
      obtain ⟨hs, -, ha, hk⟩ := hat
      exact senderChunk_answers (hk.trans_le (hs.sizesFit.chunkBytes_le ha.chunkFits))
    | sCloseAns e =>
      obtain ⟨-, hask, -⟩ := hat
      exact takeAnswer_answers hask fun x hx => senderCloseAnswer_answers hx
    | rHeader k =>
      obtain ⟨-, -, hk⟩ := hat
      exact receiverHeader_answers hk
    | rOpenAns =>
      obtain ⟨-, hask, -⟩ := hat
      exact takeAnswer_answers hask fun x hx => receiverOpenAnswer_answers hx
    | rChunk k =>
      obtain ⟨hs, -, ha, -, hk⟩ := hat
      exact receiverChunk_answers (hk.trans_le (hs.sizesFit.chunkBytes_le ha.chunkFits))
    | rSendVerdict => exact receiverSendVerdict_answers s
    | rCommit =>
      obtain ⟨hs, -, hc, -⟩ := hat
      exact receiverCommit_answers (hs.sizesFit.chunkBytes_le hc)
    | rCommitAns =>
      obtain ⟨-, hask, -⟩ := hat
      exact takeAnswer_answers hask fun x hx => receiverCommitAnswer_answers hx
    | rCloseAns e =>
      obtain ⟨-, hask, -⟩ := hat
      exact takeAnswer_answers hask fun x hx => receiverCloseAnswer_answers hx
    | _ => exact ⟨_, rfl⟩

/-- The host's answer is kept, or refused because no waiting request admits it (20_memory.md R92). -/
theorem hostAnswer_cases (s : State) (x : FileAnswer) :
    (∃ t, s.hostAnswer x = .next t) ∨
    (∀ r, s.pending = some r → s.answer = none → r.admits x = false) ∧
      (s.hostAnswer x = .refused .answerNotAdmitted ∨ s.hostAnswer x = .refused .answerWithoutRequest) := by
  by_cases hw : s.pending = none ∨ s.answer ≠ none
  · refine .inr ⟨fun r hr ha => ?_, .inr (hostAnswer_notAwaited hw)⟩
    simp [hr, ha] at hw
  · obtain ⟨hp, ha⟩ := not_or.1 hw
    obtain ⟨r, hr⟩ := Option.ne_none_iff_exists'.1 hp
    have ha := not_not.1 ha
    cases hx : r.admits x with
    | true => exact .inl ⟨_, hostAnswer_admitted hr ha hx⟩
    | false =>
      refine .inr ⟨fun r' hr' _ => ?_, .inl (hostAnswer_notAdmitted hr ha hx)⟩
      cases hr.symm.trans hr'
      exact hx

/-- An admitted access answers a next state, and any other is refused (20_memory.md R82). -/
theorem hostAccess_answers_or_refused (a : HostAccess) (s : State) :
    (∃ t, hostAccess a s = .next t) ∨ a.admitted = false ∧ hostAccess a s = .refused .accessNotAdmitted := by
  cases ha : a.admitted with
  | true =>
    obtain ⟨i, -, hd⟩ := decode_admitted ha
    rw [hostAccess_admitted ha hd]
    exact .inl (exec_answers i s)
  | false => exact .inr ⟨rfl, hostAccess_notAdmitted ha⟩

end Answers

/-- Settles O47, by the turn that the step takes. -/
theorem onlyTheOtherAgentsAreRefused : Obligations.OnlyTheOtherAgentsAreRefused := by
  intro s h
  have hinv : { s with agenda := s.agenda.tail }.Inv := h.of_unread _ _ _ _ _ _ _
  rw [step_eq_takeTurn]
  cases s.nextTurn with
  | block => exact .inl (blockStep_answers hinv)
  | access a =>
    exact (hostAccess_answers_or_refused a _).imp id fun ⟨ha, href⟩ => .inl ⟨a, rfl, ha, href⟩
  | answer x => exact (hostAnswer_cases _ x).imp id fun ⟨hx, href⟩ => .inr ⟨x, rfl, hx, href⟩
  | deliver b => exact .inl ⟨_, rfl⟩
  | reset => exact .inl ⟨_, rfl⟩

end Sys2Proof.Machine
end

section
/-! What a turn does to the link's queues, and which positions of the chunk sequence it may reach. -/

namespace Sys2Proof.Machine

/-- The link's queues: what is transmitted, and what is received and not read. -/
def State.link (s : State) : List Byte × List Byte := (s.txq, s.rxq)

/-- The link's queues after the block's turn at the position `p`: the primitive of 45_host_commands.md R314 there sends
a byte, takes the byte at the head of `rxq`, discards, or leaves the link alone. -/
def State.linkAfter (s : State) : Pos → List Byte × List Byte
  | .sSendBot | .rEchoBot => (s.txq ++ [ctrlBOT], s.rxq)
  | .sHeader k => (s.txq ++ [s.hbuf.read k], s.rxq)
  | .sChunk k => (s.txq ++ [s.buf.read k], s.rxq)
  | .sEchoSync | .rSendSync => (s.txq ++ [ctrlSYNC], s.rxq)
  | .rSendEot => (s.txq ++ [ctrlEOT], s.rxq)
  | .rSendVerdict => (s.txq ++ [if s.sess.ok then ctrlSOK else ctrlNOK], s.rxq)
  | .sAwaitPeer | .sWaitSync | .sWaitVerdict | .rAwaitBot | .rWaitSync | .rHeader _ | .rChunk _ => (s.txq, s.rxq.tail)
  | .sDiscard => (s.txq, discardFrom s.draws s.rxq)
  | _ => (s.txq, s.rxq)

/-- Where the sender's load, its answer, the discard and the chunk's bytes may be reached from (42_sender.md R203 to
R209); the other positions are not restricted. -/
def State.MayEnter (s : State) (p : Pos) : Pos → Prop
  | .sDiscard => p = .sLoadAns ∨ (p = .sWaitVerdict ∧ s.rxq.head? = some 0x08#8)
  | .sLoadAns => p = .sLoad
  | .sLoad => (∃ k, 87 ≤ k ∧ p = .sHeader k) ∨
      (p = .sWaitVerdict ∧ (s.rxq.head? = some 0x07#8 ∨ s.rxq.head? = some 0x08#8))
  | .sChunk k => (k = 0 ∧ p = .sDiscard) ∨ ∃ j, k = j + 1 ∧ p = .sChunk j
  | _ => True

/-- The block's turn at the position `p` of `s` leads to `t`, as far as the link and the chunk sequence go. -/
structure State.Advances (s : State) (p : Pos) (t : State) : Prop where
  link : t.link = s.linkAfter p
  pos : t.pos = p ∨ s.MayEnter p t.pos

/-- `State.Advances` of the state that a result answers. -/
def AdvancesAfter (s : State) (p : Pos) : Result → Prop
  | .next t => s.Advances p t
  | .fault _ | .refused _ => True

/-! ### The shared operations -/

section Operations

variable (s : State)

theorem raise_link (o : SessionOutcome) (d : Detail) : (s.raise o d).link = s.link := by
  obtain ⟨-, h⟩ | ⟨-, -, h⟩ | ⟨-, -, h⟩ := State.raise_cases s o d <;> exact h ▸ rfl

theorem endAfterClose_link (e : Ending) : (s.endAfterClose e).link = s.link := by
  cases e <;> rfl

theorem nextChunk_link (again close : Pos) : (s.nextChunk again close).link = s.link := by
  obtain ⟨-, h⟩ | ⟨-, h⟩ := State.nextChunk_cases s again close <;> exact h ▸ rfl

theorem nokVerdict_link (again : Pos) {advance : State → State} (hadv : ∀ t, (advance t).link = t.link) :
    (s.nokVerdict again advance).link = s.link := by
  obtain ⟨-, h⟩ | ⟨-, -, h⟩ | ⟨-, -, h⟩ := State.nokVerdict_cases s again advance
  · exact h ▸ rfl
  · rw [h, raise_link]
    rfl
  · rw [h, hadv]
    rfl

theorem receiverHeaderDone_link : (receiverHeaderDone s).link = s.link := by
  unfold receiverHeaderDone
  dsimp only
  split
  · exact raise_link (receiverReport s _) _ _
  · rfl

variable {u : State} {p : Pos}

theorem endAfterClose_mayEnter (e : Ending) : u.MayEnter p (s.endAfterClose e).pos := by
  cases e <;> trivial

/-- A raise closes the file or ends the session (60_exceptions.md R335). -/
theorem raise_mayEnter (o : SessionOutcome) (d : Detail) : u.MayEnter p (s.raise o d).pos := by
  obtain ⟨-, h⟩ | ⟨-, -, h⟩ | ⟨-, -, h⟩ := State.raise_cases s o d <;> exact h ▸ trivial

theorem nextChunk_mayEnter {again close : Pos} (hagain : u.MayEnter p again) (hclose : u.MayEnter p close) :
    u.MayEnter p (s.nextChunk again close).pos := by
  obtain ⟨-, h⟩ | ⟨-, h⟩ := State.nextChunk_cases s again close
  · exact h ▸ hagain
  · exact h ▸ hclose

theorem nokVerdict_mayEnter {again : Pos} {advance : State → State} (hagain : u.MayEnter p again)
    (hadv : ∀ t, u.MayEnter p (advance t).pos) : u.MayEnter p (s.nokVerdict again advance).pos := by
  obtain ⟨-, h⟩ | ⟨-, -, h⟩ | ⟨-, -, h⟩ := State.nokVerdict_cases s again advance
  · exact h ▸ hagain
  · rw [h]
    exact raise_mayEnter _ _ _
  · rw [h]
    exact hadv _

theorem receiverHeaderDone_mayEnter : u.MayEnter p (receiverHeaderDone s).pos := by
  unfold receiverHeaderDone
  dsimp only
  split
  · exact raise_mayEnter _ _ _
  · trivial

/-- Taking an answer uses no link (20_memory.md R92). -/
theorem takeAnswer_advances {k : State → FileAnswer → Result} (hp : s.linkAfter p = s.link)
    (hpos : s.pos = p) (hk : ∀ x, AdvancesAfter s p (k s.portDone x)) : AdvancesAfter s p (s.takeAnswer k) := by
  cases h : s.takeAnswer k with
  | next t =>
    obtain ⟨-, rfl⟩ | ⟨x, r, -, -, -, hx⟩ := State.takeAnswer_next h
    · exact ⟨hp.symm, .inl hpos⟩
    · have hm := hk x
      rw [hx] at hm
      exact hm
  | fault | refused => trivial

end Operations

/-! ### The handshake waits -/

theorem decodeCtrl_sok {b : Byte} (h : decodeCtrl b = .sok) : b = 0x07#8 := by
  unfold decodeCtrl at h
  split at h
  case h_7 hb => exact BitVec.eq_of_toNat_eq hb
  all_goals cases h

theorem decodeCtrl_nok {b : Byte} (h : decodeCtrl b = .nok) : b = 0x08#8 := by
  unfold decodeCtrl at h
  split at h
  case h_8 hb => exact BitVec.eq_of_toNat_eq hb
  all_goals cases h

section Waits

variable {s t : State} {i : Instr}

/-- A control byte is run after it is taken from `rxq`; its meaning uses no link (44_control_bytes.md). -/
theorem exec_control_link (h : exec i s = .next t) (hi : i.isControl = true) : t.link = s.link := by
  cases i with
  | eot | lok | ok | rsd | ctrlOther => cases h; rfl
  | bot | sync => cases h; split <;> rfl
  | sok =>
    cases h
    split
    · exact nextChunk_link s _ _
    · rfl
  | nok =>
    cases h
    split
    · exact nokVerdict_link s _ fun t => nextChunk_link t _ _
    · rfl
  | _ => cases hi

/-- Only SOK and NOK at the verdict wait lead into the chunk sequence (42_sender.md R208, R209). -/
theorem exec_control_mayEnter {u : State} (h : exec i s = .next t) (hi : i.isControl = true)
    (hsok : i = .sok → u.rxq.head? = some 0x07#8) (hnok : i = .nok → u.rxq.head? = some 0x08#8) :
    t.pos = s.pos ∨ u.MayEnter s.pos t.pos := by
  cases i with
  | eot | lok | ok | rsd | ctrlOther => cases h; exact .inl rfl
  | bot | sync =>
    cases h
    split
    · exact .inr trivial
    · exact .inr trivial
    · exact .inl rfl
  | sok =>
    cases h
    split
    · next hp =>
      rw [hp]
      exact .inr (nextChunk_mayEnter s (.inr ⟨rfl, .inl (hsok rfl)⟩) trivial)
    · exact .inl rfl
  | nok =>
    cases h
    split
    · next hp =>
      rw [hp]
      exact .inr (nokVerdict_mayEnter s (.inr ⟨rfl, hnok rfl⟩) fun t =>
        nextChunk_mayEnter t (.inr ⟨rfl, .inr (hnok rfl)⟩) trivial)
    · exact .inl rfl
  | _ => cases hi

/-- A wait holds, or takes the byte at the head of `rxq`. -/
theorem recvControl_advances {p : Pos} (hp : s.linkAfter p = (s.txq, s.rxq.tail)) (hpos : s.pos = p) :
    AdvancesAfter s p (recvControl s) := by
  cases hq : s.rxq with
  | nil =>
    rw [recvControl_nil hq]
    exact ⟨by rw [hp, State.link, hq, List.tail_nil], .inl hpos⟩
  | cons b r =>
    obtain ⟨t, ht⟩ := exec_answers (decodeCtrl b) { s with rxq := r }
    have hc := decodeCtrl_isControl b
    have hhead {c : Byte} (hb : b = c) : s.rxq.head? = some c := by rw [hq, hb, List.head?_cons]
    rw [recvControl_cons hq, ht]
    constructor
    · rw [exec_control_link ht hc, hp, hq]
      rfl
    · have henter := exec_control_mayEnter (u := s) ht hc (fun h => hhead (decodeCtrl_sok h)) fun h =>
        hhead (decodeCtrl_nok h)
      rw [← hpos]
      exact henter

end Waits

/-! ### The block's turn -/

section Steps

variable (s : State)

theorem senderHeader_advances (k : Nat) : AdvancesAfter s (.sHeader k) (senderHeader s k) := by
  unfold senderHeader
  split
  · refine ⟨?_, .inr ?_⟩
    · split <;> rfl
    · split
      · trivial
      · next hlast => exact .inl ⟨k, by simp only [hdrSize] at hlast; omega, rfl⟩
  · trivial

theorem senderChunk_advances (k : Nat) : AdvancesAfter s (.sChunk k) (senderChunk s k) := by
  unfold senderChunk
  split
  · refine ⟨rfl, .inr ?_⟩
    rw [State.goto_pos]
    split
    · exact .inr ⟨k, rfl, rfl⟩
    · trivial
  · trivial

theorem senderLoadAnswer_advances (x : FileAnswer) : AdvancesAfter s .sLoadAns (senderLoadAnswer s.portDone x) := by
  cases x with
  | ack => trivial
  | ioErr => exact ⟨raise_link _ _ _, .inr (raise_mayEnter _ _ _)⟩
  | data payload =>
    simp only [senderLoadAnswer, senderChunkLoaded]
    repeat' split
    · exact ⟨rfl, .inr (.inl rfl)⟩
    · trivial
    · trivial

theorem senderCloseAnswer_advances (e : Ending) (x : FileAnswer) :
    AdvancesAfter s (.sCloseAns e) (senderCloseAnswer s.portDone e x) := by
  cases x with
  | ack => exact ⟨endAfterClose_link _ _, .inr (endAfterClose_mayEnter _ _)⟩
  | data | ioErr => trivial

theorem receiverHeader_advances (k : Nat) (hpos : s.pos = .rHeader k) :
    AdvancesAfter s (.rHeader k) (receiverHeader s k) := by
  unfold receiverHeader
  split
  · next hq => exact ⟨by rw [State.linkAfter, State.link, hq, List.tail_nil], .inl hpos⟩
  · next b r hq =>
    split
    · have hlink : s.linkAfter (.rHeader k) = (s.txq, r) := by rw [State.linkAfter, hq, List.tail_cons]
      dsimp only
      split
      · exact ⟨hlink.symm, .inr trivial⟩
      · exact ⟨(receiverHeaderDone_link _).trans hlink.symm, .inr (receiverHeaderDone_mayEnter _)⟩
    · trivial

theorem receiverChunk_advances (k : Nat) (hpos : s.pos = .rChunk k) :
    AdvancesAfter s (.rChunk k) (receiverChunk s k) := by
  unfold receiverChunk
  split
  · next hq => exact ⟨by rw [State.linkAfter, State.link, hq, List.tail_nil], .inl hpos⟩
  · next b r hq =>
    split
    · have hlink : s.linkAfter (.rChunk k) = (s.txq, r) := by rw [State.linkAfter, hq, List.tail_cons]
      dsimp only
      split <;> exact ⟨hlink.symm, .inr trivial⟩
    · trivial

theorem receiverOpenAnswer_advances (x : FileAnswer) : AdvancesAfter s .rOpenAns (receiverOpenAnswer s.portDone x) := by
  cases x with
  | ack => exact ⟨rfl, .inr trivial⟩
  | ioErr => exact ⟨raise_link _ _ _, .inr (raise_mayEnter _ _ _)⟩
  | data => trivial

theorem receiverSendVerdict_advances : AdvancesAfter s .rSendVerdict (receiverSendVerdict s) := by
  unfold receiverSendVerdict
  split
  · next hok => exact ⟨by rw [State.linkAfter, if_pos hok]; rfl, .inr trivial⟩
  · next hok =>
    have hadv : ∀ t : State, (t.goto .rCommit).link = t.link := fun _ => rfl
    constructor
    · rw [nokVerdict_link _ _ hadv, State.linkAfter, if_neg hok]
      rfl
    · exact .inr (nokVerdict_mayEnter _ trivial fun _ => trivial)

theorem receiverCommit_advances : AdvancesAfter s .rCommit (receiverCommit s) := by
  unfold receiverCommit
  split
  · exact ⟨rfl, .inr trivial⟩
  · trivial

theorem receiverCommitAnswer_advances (x : FileAnswer) :
    AdvancesAfter s .rCommitAns (receiverCommitAnswer s.portDone x) := by
  cases x with
  | ack => exact ⟨nextChunk_link _ _ _, .inr (nextChunk_mayEnter _ trivial trivial)⟩
  | ioErr => exact ⟨raise_link _ _ _, .inr (raise_mayEnter _ _ _)⟩
  | data => trivial

theorem receiverCloseAnswer_advances (e : Ending) (x : FileAnswer) :
    AdvancesAfter s (.rCloseAns e) (receiverCloseAnswer s.portDone e x) := by
  cases x with
  | ack => exact ⟨endAfterClose_link _ _, .inr (endAfterClose_mayEnter _ _)⟩
  | data | ioErr => trivial

/-- What a turn of the block does to the link, and where it may lead, position by position. -/
theorem blockStep_advancesAfter : AdvancesAfter s s.pos (blockStep s) := by
  unfold blockStep
  cases hp : s.pos with
  | idle => exact ⟨rfl, .inl hp⟩
  | sAwaitPeer | sWaitSync | sWaitVerdict | rAwaitBot | rWaitSync => exact recvControl_advances rfl hp
  | sHeader k => exact senderHeader_advances s k
  | sLoad => exact ⟨rfl, .inr rfl⟩
  | sLoadAns => exact takeAnswer_advances s rfl hp (senderLoadAnswer_advances s)
  | sDiscard => exact ⟨rfl, .inr (.inl ⟨rfl, rfl⟩)⟩
  | sChunk k => exact senderChunk_advances s k
  | sCloseAns e => exact takeAnswer_advances s rfl hp (senderCloseAnswer_advances s e)
  | rHeader k => exact receiverHeader_advances s k hp
  | rOpenAns => exact takeAnswer_advances s rfl hp (receiverOpenAnswer_advances s)
  | rChunk k => exact receiverChunk_advances s k hp
  | rSendVerdict => exact receiverSendVerdict_advances s
  | rCommit => exact receiverCommit_advances s
  | rCommitAns => exact takeAnswer_advances s rfl hp (receiverCommitAnswer_advances s)
  | rCloseAns e => exact takeAnswer_advances s rfl hp (receiverCloseAnswer_advances s e)
  | _ => exact ⟨rfl, .inr trivial⟩

variable {s} {t : State}

theorem blockStep_advances (h : blockStep s = .next t) : s.Advances s.pos t := by
  have ha := blockStep_advancesAfter s
  rw [h] at ha
  exact ha

/-- The sender transmits no byte outside HBUF's 88 (10_state.md R64); elsewhere it faults. -/
theorem blockStep_sHeader_lt {k : Nat} (hp : s.pos = .sHeader k) (h : blockStep s = .next t) : k < 88 := by
  simp only [blockStep, hp, senderHeader] at h
  split at h
  · assumption
  · cases h

/-- The block's turn takes bytes from the front of `rxq` alone, outside a discard at most one (R90, R91). -/
theorem linkAfter_rxq (s : State) (p : Pos) :
    ∃ k, k ≤ s.rxq.length ∧ (s.linkAfter p).2 = s.rxq.drop k ∧ (p ≠ .sDiscard → k ≤ 1) := by
  have htail : ∃ k, k ≤ s.rxq.length ∧ s.rxq.tail = s.rxq.drop k ∧ k ≤ 1 := by
    cases s.rxq with
    | nil => exact ⟨0, Nat.le_refl 0, rfl, Nat.zero_le 1⟩
    | cons b r => exact ⟨1, Nat.succ_le_succ (Nat.zero_le _), rfl, Nat.le_refl 1⟩
  cases p with
  | sAwaitPeer | sWaitSync | sWaitVerdict | rAwaitBot | rWaitSync | rHeader | rChunk =>
    obtain ⟨k, hk, hdrop, hone⟩ := htail
    exact ⟨k, hk, hdrop, fun _ => hone⟩
  | sDiscard =>
    obtain ⟨k, hk, hdrop⟩ := discardFrom_eq_drop s.draws s.rxq
    exact ⟨k, hk, hdrop, absurd rfl⟩
  | _ => exact ⟨0, Nat.zero_le _, rfl, fun _ => Nat.zero_le 1⟩

/-! ### The turns of the other agents -/

theorem sendStart_link (s : State) : (sendStart s).link = s.link := by
  unfold sendStart
  dsimp only
  split <;> rfl

theorem receiveStart_link (s : State) : (receiveStart s).link = s.link := by
  unfold receiveStart
  dsimp only
  split <;> rfl

theorem sendStart_pos (s : State) : (sendStart s).pos = s.pos ∨ (sendStart s).pos = .sSendBot := by
  unfold sendStart
  dsimp only
  split
  · exact .inl rfl
  · exact .inr rfl

theorem receiveStart_pos (s : State) : (receiveStart s).pos = s.pos ∨ (receiveStart s).pos = .rAwaitBot := by
  unfold receiveStart
  dsimp only
  split
  · exact .inl rfl
  · exact .inr rfl

theorem lockedWrite_link {w : State} (hw : w.link = s.link) : (s.lockedWrite w).link = s.link := by
  obtain ⟨-, he⟩ | ⟨-, he⟩ := State.lockedWrite_cases s w
  · rw [he]; rfl
  · rw [he, hw]

theorem lockedWrite_pos {w : State} {p : Pos} (hw : w.pos = s.pos ∨ w.pos = p) :
    (s.lockedWrite w).pos = s.pos ∨ (s.lockedWrite w).pos = p := by
  obtain ⟨-, he⟩ | ⟨-, he⟩ := State.lockedWrite_cases s w
  · rw [he]; exact .inl rfl
  · rw [he]; exact hw

/-- A host access uses no link (20_memory.md R84, R85). -/
theorem hostAccess_link {a : HostAccess} (h : hostAccess a s = .next t) : t.link = s.link := by
  obtain ⟨-, rfl⟩ | ⟨-, rfl⟩ | ⟨i, -, hw⟩ := hostAccess_cases h
  · exact lockedWrite_link (sendStart_link s)
  · exact lockedWrite_link (receiveStart_link s)
  · rw [hw.frame]; rfl

/-- A host access moves the controller only by a START (45_host_commands.md R300, R301). -/
theorem hostAccess_pos {a : HostAccess} (h : hostAccess a s = .next t) :
    t.pos = s.pos ∨ t.pos = .sSendBot ∨ t.pos = .rAwaitBot := by
  obtain ⟨-, rfl⟩ | ⟨-, rfl⟩ | ⟨i, -, hw⟩ := hostAccess_cases h
  · exact (lockedWrite_pos (sendStart_pos s)).imp id .inl
  · exact (lockedWrite_pos (receiveStart_pos s)).imp id .inr
  · rw [hw.frame]; exact .inl rfl

/-- Whatever the turn, the controller stays or goes where it may. -/
theorem takeTurn_mayEnter {u : Turn} (h : takeTurn u s = .next t) : t.pos = s.pos ∨ s.MayEnter s.pos t.pos := by
  cases u with
  | block => exact (blockStep_advances h).pos
  | access a =>
    obtain hp | hp | hp := hostAccess_pos h
    · exact .inl hp
    · rw [hp]; exact .inr trivial
    · rw [hp]; exact .inr trivial
  | answer x =>
    obtain ⟨r, -, -, -, rfl⟩ := State.hostAnswer_next h
    exact .inl rfl
  | deliver b => cases h; exact .inl rfl
  | reset => cases h; exact .inr trivial

/-- Only the block transmits (20_memory.md R89). -/
theorem takeTurn_txq {u : Turn} (h : takeTurn u s = .next t) (hu : u ≠ .block) : t.txq = s.txq := by
  cases u with
  | block => exact absurd rfl hu
  | access a => exact congrArg Prod.fst (hostAccess_link h)
  | answer x =>
    obtain ⟨r, -, -, -, rfl⟩ := State.hostAnswer_next h
    rfl
  | deliver b | reset => cases h; rfl

end Steps

/-- Settles O23, position by position for the block's turn. -/
theorem transmittedBytes : Obligations.TransmittedBytes := by
  intro s t h
  rw [step_eq_takeTurn] at h
  by_cases hu : s.nextTurn = .block
  · rw [hu, takeTurn_block] at h
    have htx : t.txq = (s.linkAfter s.pos).1 := congrArg Prod.fst (blockStep_advances h).link
    have hlt {k : Nat} (hp : s.pos = .sHeader k) : k < 88 :=
      blockStep_sHeader_lt (s := { s with agenda := s.agenda.tail }) hp h
    cases hp : s.pos with
    | sSendBot | rEchoBot | sChunk | sEchoSync | rSendSync | rSendEot | rSendVerdict =>
      rw [hp] at htx
      exact .inr ⟨hu, _, htx, rfl⟩
    | sHeader k =>
      rw [hp] at htx
      exact .inr ⟨hu, _, htx, hlt hp, rfl⟩
    | _ =>
      rw [hp] at htx
      exact .inl htx
  · have htx := takeTurn_txq h hu
    exact .inl htx

/-- Settles O24, turn by turn. -/
theorem receiveQueueOrder : Obligations.ReceiveQueueOrder := by
  intro s t h
  rw [step_eq_takeTurn] at h
  cases hu : s.nextTurn with
  | block =>
    rw [hu] at h
    have hrx : t.rxq = (s.linkAfter s.pos).2 := congrArg Prod.snd (blockStep_advances h).link
    rw [hrx]
    exact linkAfter_rxq s s.pos
  | access a =>
    rw [hu] at h
    exact congrArg Prod.snd (hostAccess_link h)
  | answer x =>
    rw [hu] at h
    obtain ⟨r, -, -, -, rfl⟩ := State.hostAnswer_next h
    rfl
  | deliver b | reset =>
    rw [hu] at h
    cases h
    rfl

/-- Settles O33, from where each turn may lead. -/
theorem chunksGoOneAtATime : Obligations.ChunksGoOneAtATime := by
  intro s t h hne
  rw [step_eq_takeTurn] at h
  have henter : s.MayEnter s.pos t.pos := (takeTurn_mayEnter h).resolve_left hne
  refine ⟨fun hp => ?_, fun hp => ?_, fun hp => ?_, fun k hp => ?_⟩ <;>
  · rw [hp] at henter
    exact henter

end Sys2Proof.Machine
end

section
/-! The statements about the decoder and the encoder, and about the bytes a handshake wait drops (30_encoding.md). -/

namespace Sys2Proof

/-! ### What the decoder gives, row by row -/

/-- A byte outside the control-byte alphabet is CTRL_OTHER (30_encoding.md R112). -/
theorem decodeCtrl_of_notControlByte {b : Byte} (h : notControlByte b) : decodeCtrl b = .ctrlOther b := by
  unfold decodeCtrl
  split
  case h_9 => rfl
  all_goals omega

/-- A CMD value other than the three commands is CMD_RESERVED (30_encoding.md R119). -/
theorem decodeCommand_of_reservedCommand {data : Word} (h : reservedCommand data) :
    decodeCommand data = .cmdReserved data := by
  obtain ⟨hsend, hreceive, hclear⟩ := h
  simp only [decodeCommand, hsend, hreceive, hclear, if_false]

/-- Above CRC_DIN a write is to the name buffer or ignored (10_state.md R32, R59). -/
theorem decodeWrite_of_ge {off : BitVec 8} (h : 0x28 ≤ off.toNat) (data : Word) :
    decodeWrite off data =
      if off.extractLsb' 6 2 = 2#2 then .wrName (off.extractLsb' 2 4) data else .wrIgnored off data := by
  unfold decodeWrite
  split
  case h_11 => rfl
  all_goals omega

/-- Above ERRINFO a read is of the name buffer or of an unmapped offset (10_state.md R32, R59, R60). -/
theorem decodeRead_of_ge {off : BitVec 8} (h : 0x64 ≤ off.toNat) :
    decodeRead off = if off.extractLsb' 6 2 = 2#2 then .rdName (off.extractLsb' 2 4) else .rdUnmapped off := by
  unfold decodeRead
  split
  case h_26 => rfl
  all_goals omega

theorem decodeWrite_nameOffset (k : BitVec 4) (data : Word) : decodeWrite (nameOffset k) data = .wrName k data := by
  rw [decodeWrite_of_ge (by rw [nameOffset_toNat]; omega), nameOffset_top, nameOffset_index, if_pos rfl]

theorem decodeRead_nameOffset (k : BitVec 4) : decodeRead (nameOffset k) = .rdName k := by
  rw [decodeRead_of_ge (by rw [nameOffset_toNat]; omega), nameOffset_top, nameOffset_index, if_pos rfl]

theorem decodeWrite_of_ignoredOffset {off : BitVec 8} (h : ignoredOffset off) (data : Word) :
    decodeWrite off data = .wrIgnored off data := by
  obtain ⟨-, hrange⟩ := h
  simp only [unmappedOffset] at hrange
  rw [decodeWrite_of_ge (by omega), if_neg]
  rw [nameOffset_top_iff]
  omega

theorem decodeRead_of_unmappedOffset {off : BitVec 8} (h : unmappedOffset off) : decodeRead off = .rdUnmapped off := by
  obtain ⟨-, hrange⟩ := h
  rw [decodeRead_of_ge (by omega), if_neg]
  rw [nameOffset_top_iff]
  omega

/-! ### Decoding an encoding -/

theorem decode_busWrite {off : BitVec 8} (h : off.toNat % 4 = 0) (data : Word) :
    decode (busWrite off data) = .ok (decodeWrite off data) := decode_busDesc h true data

theorem decode_busRead {off : BitVec 8} (h : off.toNat % 4 = 0) : decode (busRead off) = .ok (decodeRead off) :=
  decode_busDesc h false 0#32

theorem nameOffset_aligned (k : BitVec 4) : (nameOffset k).toNat % 4 = 0 := by
  rw [nameOffset_toNat]
  omega

/-- Settles O1, row by row: a register's row is found by its offset, and the rows with restricted operands by what
well-formedness says of them. -/
theorem decodeEncodeAgree : Obligations.DecodeEncodeAgree := by
  intro i hwf
  cases i with
  | eot | bot | lok | sync | ok | rsd | sok | nok => rfl
  | ctrlOther b => exact congrArg Except.ok (decodeCtrl_of_notControlByte (of_decide_eq_true hwf))
  | cmdReserved data =>
    rw [encode, decode_busWrite rfl]
    exact congrArg Except.ok (decodeCommand_of_reservedCommand (of_decide_eq_true hwf))
  | wrName k data => rw [encode, decode_busWrite (nameOffset_aligned k), decodeWrite_nameOffset]
  | wrIgnored off data =>
    have hoff : ignoredOffset off := of_decide_eq_true hwf
    rw [encode, decode_busWrite hoff.1, decodeWrite_of_ignoredOffset hoff]
  | rdName k => rw [encode, decode_busRead (nameOffset_aligned k), decodeRead_nameOffset]
  | rdUnmapped off =>
    have hoff : unmappedOffset off := of_decide_eq_true hwf
    rw [encode, decode_busRead hoff.1, decodeRead_of_unmappedOffset hoff]
  | send | receive | crcClear | crcUpdate | wrCtrl | wrStatus | wrRetrycount | wrChunkSize | wrFileSize | wrCrcPoly
  | wrCrcInit | wrCrcXorout => exact decode_busWrite rfl _
  | _ => exact decode_busRead rfl

/-! ### Encoding what was decoded -/

theorem decodeCtrl_wellFormed (b : Byte) : (decodeCtrl b).WellFormed = true := by
  unfold decodeCtrl
  split
  case h_9 => exact decide_eq_true (p := notControlByte b) (by simp only [imp_false] at *; omega)
  all_goals rfl

theorem encode_decodeCtrl (b : Byte) : encode (decodeCtrl b) = .ctrl8 b := by
  unfold decodeCtrl
  split
  case h_9 => rfl
  all_goals exact congrArg Code.ctrl8 (BitVec.eq_of_toNat_eq (Eq.symm ‹_›))

theorem encode_decodeCommand (data : Word) : encode (decodeCommand data) = busWrite 0x04#8 data := by
  unfold decodeCommand
  split_ifs with hsend hreceive hclear
  · rw [hsend, encode]
  · rw [hreceive, encode]
  · rw [hclear, encode]
  · rw [encode]

/-- An aligned offset of the name buffer is the offset of its NAMEk (10_state.md R59). -/
theorem nameOffset_of_top {off : BitVec 8} (h : off.toNat % 4 = 0) (htop : off.extractLsb' 6 2 = 2#2) :
    nameOffset (off.extractLsb' 2 4) = off := by
  rw [nameOffset_top_iff] at htop
  apply BitVec.eq_of_toNat_eq
  rw [nameOffset_toNat, BitVec.extractLsb'_toNat, Nat.shiftRight_eq_div_pow]
  omega

theorem encode_decodeWrite {off : BitVec 8} (h : off.toNat % 4 = 0) (data : Word) :
    encode (decodeWrite off data) = busWrite off data := by
  unfold decodeWrite
  split
  case h_2 hoff => rw [encode_decodeCommand, BitVec.eq_of_toNat_eq (y := 0x04#8) hoff]
  case h_11 =>
    split
    · next htop => rw [encode, nameOffset_of_top h htop]
    · rfl
  all_goals exact congrArg (busWrite · data) (BitVec.eq_of_toNat_eq (Eq.symm ‹_›))

theorem encode_decodeRead {off : BitVec 8} (h : off.toNat % 4 = 0) : encode (decodeRead off) = busRead off := by
  unfold decodeRead
  split
  case h_26 =>
    split
    · next htop => rw [encode, nameOffset_of_top h htop]
    · rfl
  all_goals exact congrArg busRead (BitVec.eq_of_toNat_eq (Eq.symm ‹_›))

/-- What a descriptor that the decoder does not reject is (20_memory.md R82, 30_encoding.md R118). -/
theorem decodeBus_ok {d : BitVec 41} {i : Instr} (h : decodeBus d = .ok i) :
    (descOff d).toNat % 4 = 0 ∧
      (descWrite d = true ∧ i = decodeWrite (descOff d) (descData d) ∨
        descWrite d = false ∧ i = decodeRead (descOff d)) := by
  unfold decodeBus at h
  split at h
  · cases h
  · next haligned =>
    refine ⟨not_not.1 haligned, ?_⟩
    split at h
    · next hw => cases h; exact .inl ⟨hw, rfl⟩
    · next hw => cases h; exact .inr ⟨Bool.eq_false_iff.2 hw, rfl⟩

/-- Settles O2, by the form of the code word: a control byte, a write, or a read. -/
theorem encodeDecodeAgree : Obligations.EncodeDecodeAgree := by
  intro c i h
  cases c with
  | ctrl8 b =>
    cases h
    exact ⟨decodeCtrl_wellFormed b, encode_decodeCtrl b⟩
  | bus d =>
    obtain ⟨haligned, ⟨hw, rfl⟩ | ⟨hw, rfl⟩⟩ := decodeBus_ok h
    · refine ⟨decodeWrite_wellFormed _ haligned, ?_⟩
      have hd : busWrite (descOff d) (descData d) = .bus d := by rw [busWrite, ← hw, busDesc_fields]
      simp only [hw, if_true, encode_decodeWrite haligned, hd]
    · refine ⟨decodeRead_wellFormed haligned, ?_⟩
      simp only [hw, Bool.false_eq_true, if_false, encode_decodeRead haligned]

/-- Settles O3, each word evaluated. -/
theorem specWordsDecode : Obligations.SpecWordsDecode :=
  ⟨rfl, rfl, rfl, rfl, rfl, rfl, rfl, rfl, rfl, rfl, rfl, rfl, rfl, rfl, rfl, rfl, rfl, rfl, rfl, rfl, rfl⟩

namespace Machine

/-! ### Bytes that a wait does not expect -/

/-- A row of the control bytes is decoded from its own byte only. -/
theorem eq_of_decodeCtrl {b c : Byte} {i : Instr} (h : decodeCtrl b = i) (hi : encode i = .ctrl8 c) : b = c :=
  Code.ctrl8.inj ((encode_decodeCtrl b).symm.trans (h ▸ hi))

/-- A byte that the position does not expect changes nothing when it is run (44_control_bytes.md R280 to R288). -/
theorem exec_decodeCtrl_unexpected {s : State} {b : Byte} (h : s.pos.expects b = false) :
    exec (decodeCtrl b) s = .next s := by
  cases hi : decodeCtrl b with
  | eot | lok | ok | rsd | ctrlOther => rfl
  | bot | sync =>
    obtain rfl := eq_of_decodeCtrl hi rfl
    simp only [exec, execBot, execSync]
    split
    case h_3 => rfl
    all_goals next hp => rw [hp] at h; cases h
  | sok | nok =>
    obtain rfl := eq_of_decodeCtrl hi rfl
    simp only [exec, execSok, execNok]
    split
    case h_2 => rfl
    case h_1 hp => rw [hp] at h; cases h
  | _ => exact absurd (hi ▸ decodeCtrl_isControl b) nofun

/-- Settles O9: the byte is taken from `rxq`, and running it changes nothing. -/
theorem unexpectedBytesAreDiscarded : Obligations.UnexpectedBytesAreDiscarded := by
  refine ⟨fun s b r hwait hq hb => ?_, fun s => ⟨rfl, rfl, rfl, rfl, fun b => rfl⟩⟩
  rw [blockStep_control hwait hq]
  exact exec_decodeCtrl_unexpected (s := { s with rxq := r }) hb

end Machine

end Sys2Proof
end

section
/-! The statements about the CRC engine: its step, its checksum, and the host's channel to it (40_crc32.md). -/

namespace Sys2Proof.Machine

/-! ### Bit reflection (00_scope.md R11) -/

theorem reverse_injective {w : Nat} : Function.Injective (BitVec.reverse (w := w)) :=
  Function.LeftInverse.injective fun _ => BitVec.reverse_reverse_eq

theorem reverse_xor {w : Nat} (x y : BitVec w) : (x ^^^ y).reverse = x.reverse ^^^ y.reverse := by
  ext i hi
  simp only [BitVec.getElem_reverse, BitVec.getMsbD_xor, BitVec.getElem_xor]

theorem reverse_shiftLeft {w : Nat} (x : BitVec w) (n : Nat) : (x <<< n).reverse = x.reverse >>> n := by
  ext i hi
  rw [BitVec.getElem_reverse, BitVec.getMsbD_shiftLeft, BitVec.getElem_ushiftRight, BitVec.getLsbD_reverse,
    Nat.add_comm]

/-! ### One bit of the engine (40_crc32.md R141) -/

@[simp] theorem crcBit_zero_poly (reg : Word) (inputBit : Bool) : crcBit 0#32 reg inputBit = reg <<< 1 := by
  simp [crcBit_eq]

/-- What is XORed into the register counts as an input bit at its high end, and is shifted below it. -/
theorem crcBit_xor (poly reg x : Word) :
    crcBit poly (reg ^^^ x) false = crcBit poly reg (x.getLsbD 31) ^^^ x <<< 1 := by
  rw [crcBit_eq, crcBit_eq, BitVec.getLsbD_xor, BitVec.shiftLeft_xor_distrib, BitVec.xor_assoc, BitVec.xor_assoc,
    BitVec.xor_comm (x <<< 1)]
  cases reg.getLsbD 31 <;> cases x.getLsbD 31 <;> rfl

/-- With an odd polynomial the lowest bit after a pass is the feedback. -/
theorem crcBit_getLsbD_zero {poly : Word} (hpoly : poly.getLsbD 0 = true) (reg : Word) (inputBit : Bool) :
    (crcBit poly reg inputBit).getLsbD 0 = (reg.getLsbD 31 ^^ inputBit) := by
  rw [crcBit_eq]
  cases reg.getLsbD 31 <;> cases inputBit <;> simp [hpoly]

/-- With an odd polynomial a pass loses nothing of the register: the feedback stands in its lowest bit. -/
theorem crcBit_injective {poly : Word} (hpoly : poly.getLsbD 0 = true) (inputBit : Bool) :
    Function.Injective (crcBit poly · inputBit) := by
  intro reg reg' (h : crcBit poly reg inputBit = crcBit poly reg' inputBit)
  have htop : reg.getLsbD 31 = reg'.getLsbD 31 := by
    have hlow := congrArg (BitVec.getLsbD · 0) h
    simpa only [crcBit_getLsbD_zero hpoly, Bool.xor_left_inj] using hlow
  have hshift : reg <<< 1 = reg' <<< 1 := by
    rw [crcBit_eq, crcBit_eq, htop] at h
    exact (BitVec.xor_left_inj _).1 h
  ext i hi
  obtain rfl | hlt : i = 31 ∨ i + 1 < 32 := by omega
  · exact htop
  · simpa [hlt] using congrArg (BitVec.getLsbD · (i + 1)) hshift

/-- A pass on the reflected register: a right shift that XORs in the reflected polynomial. -/
theorem reverse_crcBit (poly reg : Word) (inputBit : Bool) :
    (crcBit poly reg inputBit).reverse =
      reg.reverse >>> 1 ^^^ if reg.reverse.getLsbD 0 ≠ inputBit then poly.reverse else 0#32 := by
  have hbit : reg.reverse.getLsbD 0 = reg.getLsbD 31 := reflect32_bit reg 0 (by omega)
  have hzero : BitVec.reverse 0#32 = 0#32 := by decide +kernel
  rw [crcBit_eq, hbit, reverse_xor, reverse_shiftLeft, apply_ite BitVec.reverse, hzero]

/-! ### One byte of the engine (R141) -/

theorem crcInput_of_refin {cfg : CrcCfg} (h : cfg.refin = true) (b : Byte) : crcInput cfg b = b.reverse := if_pos h

theorem crcInput_of_not_refin {cfg : CrcCfg} (h : cfg.refin = false) (b : Byte) : crcInput cfg b = b := by
  simp [crcInput, h]

theorem crcInput_injective (cfg : CrcCfg) : Function.Injective (crcInput cfg) := by
  intro b c h
  cases hr : cfg.refin
  · rwa [crcInput_of_not_refin hr, crcInput_of_not_refin hr] at h
  · rw [crcInput_of_refin hr, crcInput_of_refin hr] at h
    exact reverse_injective h

/-- A step reads of the configuration the polynomial, and `refin` through the input byte. -/
theorem crcStep_congr {cfg cfg' : CrcCfg} {b c : Byte} (hpoly : cfg.poly = cfg'.poly)
    (hin : crcInput cfg b = crcInput cfg' c) (reg : Word) : crcStep cfg reg b = crcStep cfg' reg c := by
  rw [crcStep, crcStep, hpoly, hin]

/-- Two configurations with the polynomial and `refin` in common step alike (R144). -/
theorem crcStep_eq_of_poly_refin {cfg cfg' : CrcCfg} (hpoly : cfg.poly = cfg'.poly) (hrefin : cfg.refin = cfg'.refin)
    (reg : Word) (b : Byte) : crcStep cfg reg b = crcStep cfg' reg b :=
  crcStep_congr hpoly (by rw [crcInput, crcInput, hrefin]) reg

/-- Without a polynomial a step is a left shift by 8 (R145). -/
theorem crcStep_zero_poly {cfg : CrcCfg} (h : cfg.poly = 0#32) (reg : Word) (b : Byte) :
    crcStep cfg reg b = reg <<< 8 := by
  simp only [crcStep_eq, h, crcBit_zero_poly, ← BitVec.shiftLeft_add]

/-- The passes of a step, counted from the byte's high bit. -/
theorem crcStep_eq_foldl_range (cfg : CrcCfg) (reg : Word) (b : Byte) :
    crcStep cfg reg b =
      (List.range 8).foldl (fun r k => crcBit cfg.poly r ((crcInput cfg b).getLsbD (7 - k))) reg := rfl

/-- With input reflection a step takes the byte's bits from bit 0 up. -/
theorem crcStep_of_refin {cfg : CrcCfg} (h : cfg.refin = true) (reg : Word) (b : Byte) :
    crcStep cfg reg b = (List.range 8).foldl (fun r k => crcBit cfg.poly r (b.getLsbD k)) reg := by
  rw [crcStep_eq_foldl_range]
  refine List.foldl_ext _ _ _ fun r k hk => ?_
  have hk : k < 8 := List.mem_range.1 hk
  have hbit : b.reverse.getLsbD (7 - k) = b.getLsbD (7 - (7 - k)) := reflect8_bit b (7 - k) (by omega)
  rw [crcInput_of_refin h, hbit, show 7 - (7 - k) = k by omega]

/-! ### A step as passes without input -/

/-- The byte at the high end of a word. -/
def highByte (b : Byte) : Word := b.setWidth 32 <<< 24

theorem highByte_getLsbD (b : Byte) {k : Nat} (hk : k < 8) : (highByte b).getLsbD (24 + k) = b.getLsbD k := by
  simp [highByte, hk, show 24 + k < 32 by omega]

theorem highByte_injective : Function.Injective highByte := by
  intro b c h
  refine BitVec.eq_of_getLsbD_eq fun i hi => ?_
  rw [← highByte_getLsbD b hi, h, highByte_getLsbD c hi]

theorem highByte_shiftLeft (b : Byte) : highByte b <<< 8 = 0#32 := by
  rw [highByte, ← BitVec.shiftLeft_add]
  exact BitVec.shiftLeft_eq_zero (Nat.le_refl 32)

/-- Passes without input over a register with `x` XORed in take their input bits from `x`, the high bit first. -/
theorem crcBit_iterate_xor (poly reg x : Word) : ∀ n : Nat, n ≤ 32 →
    (crcBit poly · false)^[n] (reg ^^^ x) =
      (List.range n).foldl (fun r k => crcBit poly r (x.getLsbD (31 - k))) reg ^^^ x <<< n
  | 0, _ => by simp
  | n + 1, hn => by
    have hbit : (x <<< n).getLsbD 31 = x.getLsbD (31 - n) := by
      rw [BitVec.getLsbD_shiftLeft, decide_eq_true (by omega), decide_eq_false (by omega)]
      rfl
    rw [Function.iterate_succ_apply', crcBit_iterate_xor poly reg x n (by omega), crcBit_xor, hbit,
      ← BitVec.shiftLeft_add, List.range_succ, List.foldl_append]
    rfl

/-- A step is eight passes without input over the register with the byte XORed into its high end. -/
theorem crcStep_eq_iterate (cfg : CrcCfg) (reg : Word) (b : Byte) :
    crcStep cfg reg b = (crcBit cfg.poly · false)^[8] (reg ^^^ highByte (crcInput cfg b)) := by
  rw [crcBit_iterate_xor _ _ _ 8 (by omega), highByte_shiftLeft, BitVec.xor_zero, crcStep_eq_foldl_range]
  refine List.foldl_ext _ _ _ fun r k hk => ?_
  have hk : k < 8 := List.mem_range.1 hk
  rw [show 31 - k = 24 + (7 - k) by omega, highByte_getLsbD _ (by omega)]

section OddPoly

variable {cfg : CrcCfg} (hpoly : cfg.poly.getLsbD 0 = true)

include hpoly

/-- With an odd polynomial a step is determined by, and determines, the register with the input byte XORed in. -/
theorem crcStep_inj_iff {reg reg' : Word} {b c : Byte} :
    crcStep cfg reg b = crcStep cfg reg' c ↔
      reg ^^^ highByte (crcInput cfg b) = reg' ^^^ highByte (crcInput cfg c) := by
  rw [crcStep_eq_iterate, crcStep_eq_iterate]
  exact ((crcBit_injective hpoly false).iterate 8).eq_iff

/-- With an odd polynomial different registers stay different over the same byte. -/
theorem crcStep_register_injective (b : Byte) : Function.Injective (crcStep cfg · b) := fun _ _ h =>
  (BitVec.xor_left_inj _).1 ((crcStep_inj_iff hpoly).1 h)

/-- With an odd polynomial different bytes lead from one register to different ones. -/
theorem crcStep_byte_injective (reg : Word) : Function.Injective (crcStep cfg reg) := fun _ _ h =>
  crcInput_injective cfg (highByte_injective ((BitVec.xor_right_inj _).1 ((crcStep_inj_iff hpoly).1 h)))

theorem crcFeed_injective : ∀ s : List Byte, Function.Injective (crcFeed cfg · s)
  | [], _, _, h => h
  | b :: s, reg, reg', h => by
    simp only [crcFeed_cons] at h
    exact crcStep_register_injective hpoly b (crcFeed_injective s h)

end OddPoly

/-! ### The checksum (R142, R143) -/

theorem crcFinal_of_refout {cfg : CrcCfg} (h : cfg.refout = true) (reg : Word) :
    crcFinal cfg reg = reg.reverse ^^^ cfg.xorout := by
  rw [crcFinal, if_pos h, reflect32]

theorem crcFinal_of_not_refout {cfg : CrcCfg} (h : cfg.refout = false) (reg : Word) :
    crcFinal cfg reg = reg ^^^ cfg.xorout := by
  simp [crcFinal, h]

theorem crcFinal_injective (cfg : CrcCfg) : Function.Injective (crcFinal cfg) := by
  intro reg reg' h
  cases hr : cfg.refout
  · rw [crcFinal_of_not_refout hr, crcFinal_of_not_refout hr] at h
    exact (BitVec.xor_left_inj _).1 h
  · rw [crcFinal_of_refout hr, crcFinal_of_refout hr] at h
    exact reverse_injective ((BitVec.xor_left_inj _).1 h)

/-- The checksum is `crc_final` of the fold of `crc_step` over the bytes (R143). -/
theorem checksum_eq_foldl (cfg : CrcCfg) (s : List Byte) :
    checksum cfg s = crcFinal cfg (s.foldl (crcStep cfg) cfg.init) := by
  rw [checksum, crcFeed_eq_foldl]

/-- With an odd polynomial bytes that differ in one place have different checksums (R149). -/
theorem checksum_ne_of_byte_ne {cfg : CrcCfg} (hpoly : cfg.poly.getLsbD 0 = true) {b c : Byte} (hne : b ≠ c)
    (s t : List Byte) : checksum cfg (s ++ b :: t) ≠ checksum cfg (s ++ c :: t) := by
  intro h
  have hfeed := crcFinal_injective cfg h
  rw [crcFeed_append, crcFeed_append, crcFeed_cons, crcFeed_cons] at hfeed
  exact hne (crcStep_byte_injective hpoly _ (crcFeed_injective hpoly t hfeed))

theorem reset_cfgNow :
    State.reset.cfgNow = (⟨0x04C11DB7#32, 0xFFFFFFFF#32, 0xFFFFFFFF#32, true, true⟩ : CrcCfg) := rfl

/-- Settles O55, law by law. -/
theorem crcFoldsAndReflects : Obligations.CrcFoldsAndReflects := by
  refine ⟨fun cfg s t => ?_, fun cfg cfg' reg b hpoly => ⟨fun hrefin => ?_, fun hset hclear => ?_⟩,
    fun cfg reg => ⟨fun h => crcFinal_of_refout h reg, fun h => crcFinal_of_not_refout h reg⟩,
    reflect32_bit, reflect8_bit, reset_cfgNow, ?_, ?_⟩
  · rw [checksum_eq_foldl, List.foldl_append]
  · exact crcStep_eq_of_poly_refin hpoly hrefin reg b
  · exact crcStep_congr hpoly.symm (by rw [crcInput_of_refin hset, crcInput_of_not_refin hclear]) reg
  · decide +kernel
  · decide +kernel

/-- Settles O56, pass by pass. -/
theorem reflectedCrcShiftsRight : Obligations.ReflectedCrcShiftsRight := by
  intro cfg reg b hrefin
  rw [crcStep_of_refin hrefin]
  exact (List.foldl_hom BitVec.reverse fun r j => (reverse_crcBit cfg.poly r (b.getLsbD j)).symm).symm

/-- Settles O57: the standard polynomial is odd. -/
theorem singleByteChangeIsDetected : Obligations.SingleByteChangeIsDetected := by
  intro cfg s t b c hpoly hne
  have hodd : cfg.poly.getLsbD 0 = true := by
    rw [hpoly]
    decide
  exact checksum_ne_of_byte_ne hodd hne s t

/-! ### The host's channel (R145 to R147) -/

/-- CRC_CLEAR in every state (R146). -/
theorem exec_crcClear (s : State) : exec .crcClear s = .next { s with crcAcc := s.crcInit } := rfl

/-- CRC_UPDATE in every state (R145). -/
theorem exec_crcUpdate (data : Word) (s : State) :
    exec (.crcUpdate data) s = .next { s with crcAcc := crcStep s.cfgNow s.crcAcc (data.extractLsb' 0 8) } := by
  have hbyte : crcDinOperand data = data.extractLsb' 0 8 := BitVec.setWidth_eq_extractLsb' (by omega)
  rw [← hbyte]
  rfl

/-- A read of CRC_OUT in every state (R147). -/
theorem exec_rdCrcOut (s : State) : exec .rdCrcOut s = .next (s.hostReturn (crcFinal s.cfgNow s.crcAcc)) := rfl

theorem reset_crcStep : crcStep State.reset.cfgNow 0xFFFFFFFF#32 0x31#8 = 0x1208C43E#32 := by decide +kernel

/-- Settles O14, from the meaning of CRC_UPDATE; the two examples are facts of the step. -/
theorem crcUpdateStepsTheAccumulator : Obligations.CrcUpdateStepsTheAccumulator := by
  refine fun s data => ⟨decode_busWrite rfl data, exec_crcUpdate data s, fun hpoly => ?_,
    fun hpoly hrefin hacc hbyte => ?_⟩
  · rw [exec_crcUpdate, crcStep_zero_poly hpoly]
  · have hstep := crcStep_eq_of_poly_refin (cfg := s.cfgNow) (cfg' := State.reset.cfgNow) hpoly hrefin
    rw [exec_crcUpdate, hacc, hbyte, hstep, reset_crcStep]

/-- Settles O12, from the meaning of CRC_CLEAR and the checksum of no bytes. -/
theorem crcClearLoadsTheInit : Obligations.CrcClearLoadsTheInit := by
  refine ⟨decode_busWrite rfl 3#32, fun s => ⟨exec_crcClear s, ?_⟩, ?_⟩
  · rw [checksum_eq_foldl]
    rfl
  · decide +kernel

theorem hostAccess_writeAccess {off : BitVec 8} (h : off.toNat % 4 = 0) (data : Word) (s : State) :
    hostAccess (writeAccess off data) s = exec (decodeWrite off data) s := by
  have hd : decode (writeAccess off data).code = .ok (decodeWrite off data) := by
    rw [HostAccess.code, writeAccess, BitVec.ofNat_toNat, BitVec.setWidth_eq]
    exact decode_busDesc h true data
  exact hostAccess_admitted ((writeAccess off data).admitted_iff.2 ⟨rfl, h, off.isLt⟩) hd

/-- A write of a byte to CRC_DIN feeds that byte. -/
theorem hostAccess_crcDin (b : Byte) (s : State) :
    hostAccess (writeAccess 0x24#8 (b.setWidth 32)) s = .next { s with crcAcc := crcStep s.cfgNow s.crcAcc b } := by
  have hbyte : (b.setWidth 32).extractLsb' 0 8 = b := by
    rw [← BitVec.setWidth_eq_extractLsb' (by omega), BitVec.setWidth_setWidth_of_le _ (by omega), BitVec.setWidth_eq]
  rw [hostAccess_writeAccess rfl]
  exact (exec_crcUpdate _ s).trans (by rw [hbyte])

/-- A run of writes of bytes to CRC_DIN folds the step over them. -/
theorem runSteps_crcDin (rest : List Turn) : ∀ (bytes : List Byte) (s : State),
    s.agenda = accessTurns (bytes.map fun b => writeAccess 0x24#8 (b.setWidth 32)) ++ rest →
      runSteps bytes.length s =
        .next { s with agenda := rest, crcAcc := bytes.foldl (crcStep s.cfgNow) s.crcAcc }
  | [], s, hag => by
    have hrest : s.agenda = rest := hag
    rw [List.length_nil, List.foldl_nil, ← hrest, runSteps_zero]
  | b :: bytes, s, hag => by
    have hstep := step_cons (s := s) hag
    rw [takeTurn_access, hostAccess_crcDin] at hstep
    rw [List.length_cons, runSteps_next hstep, runSteps_crcDin rest bytes _ rfl]
    rfl

/-- The turn that writes 3 to CMD. -/
theorem step_crcClear {s : State} {rest : List Turn} (h : s.agenda = .access (writeAccess 0x04#8 3#32) :: rest) :
    step s = .next { s with agenda := rest, crcAcc := s.crcInit } := by
  rw [step_cons h, takeTurn_access, hostAccess_writeAccess rfl]
  exact exec_crcClear _

/-- The turn that reads CRC_OUT. -/
theorem step_rdCrcOut {s : State} {rest : List Turn} (h : s.agenda = .access (readAccess 0x2C#8) :: rest) :
    step s = .next { s with agenda := rest, trace := s.trace ++ [crcFinal s.cfgNow s.crcAcc] } := by
  rw [step_cons h, takeTurn_access, hostAccess_readAccess rfl]
  exact exec_rdCrcOut _

/-- Settles O58: the clear, the run of writes, and the read, joined end to end. -/
theorem hostChannelComputesTheChecksum : Obligations.HostChannelComputesTheChecksum := by
  refine ⟨fun s bytes rest hag => ?_, fun s => ⟨decode_busRead rfl, exec_rdCrcOut s⟩⟩
  have hturns : s.agenda = .access (writeAccess 0x04#8 3#32) ::
      (accessTurns (bytes.map fun b => writeAccess 0x24#8 (b.setWidth 32)) ++
        .access (readAccess 0x2C#8) :: rest) := by
    rw [hag]
    simp [accessTurns]
  rw [runSteps_next (step_crcClear hturns), runSteps_add 1 (runSteps_crcDin _ bytes _ rfl), runSteps_one,
    step_rdCrcOut rfl, checksum_eq_foldl]
  rfl

end Sys2Proof.Machine
end

section
/-! The statements about the header codec: its layout, its checks, and its round trip (41_header_codec.md). -/

namespace Sys2Proof.Machine

/-! ### Slices of a byte sequence (00_scope.md R8, R10) -/

/-- A slice of the length of the first part of a sequence is that part. -/
theorem slice_append_left {m : List Byte} {b : Nat} (t : List Byte) (hb : m.length = b) : slice (m ++ t) 0 b = m :=
  List.take_left' hb

/-- A slice that starts after the first part of a sequence is a slice of the rest. -/
theorem slice_append_right {p : List Byte} {a b n : Nat} (t : List Byte) (hp : p.length = n) (ha : n ≤ a) :
    slice (p ++ t) a b = slice t (a - n) (b - n) := by
  have hdrop : (p ++ t).drop a = t.drop (a - n) := by
    rw [List.drop_append, List.drop_eq_nil_of_le (hp ▸ ha), List.nil_append, hp]
  rw [slice, slice, hdrop, Nat.sub_sub_sub_cancel_right ha]

/-- Two slices that meet join to one. -/
theorem slice_append_slice (s : List Byte) {a b c : Nat} (hab : a ≤ b) (hbc : b ≤ c) :
    slice s a b ++ slice s b c = slice s a c := by
  have hdrop : s.drop b = (s.drop a).drop (b - a) := by rw [List.drop_drop, Nat.add_sub_cancel' hab]
  rw [slice, slice, slice, hdrop, ← List.take_add, Nat.add_comm, Nat.sub_add_sub_cancel hbc hab]

theorem slice_zero_length {s : List Byte} {n : Nat} (hs : s.length = n) : slice s 0 n = s :=
  List.take_of_length_le hs.le

/-- Reading a word and writing it again gives the four bytes (R10). -/
theorem le32_fromLe32 {s : List Byte} {a b : Nat} (hb : a + 4 = b) (hs : b ≤ s.length) :
    le32 (fromLe32 s a) = slice s a b := by
  subst hb
  refine List.ext_getElem? fun r => ?_
  by_cases hr : r < 4
  · rw [le32_getElem? _ hr, fromLe32_lane _ _ hr, getElem?_slice _ _ _ _ (by omega), List.getD_eq_getElem?_getD,
      List.getElem?_eq_getElem (by omega), Option.getD_some]
  · rw [List.getElem?_eq_none (by rw [le32_length]; omega),
      List.getElem?_eq_none (by rw [slice_length _ _ _ hs]; omega)]

theorem le32_injective : Function.Injective le32 :=
  Function.LeftInverse.injective (g := fun l => fromLe32 l) fromLe32_le32

/-- A word is read back from where its `le32` stands. -/
theorem fromLe32_of_slice {s : List Byte} {a b : Nat} {x : Word} (hb : a + 4 = b) (hs : b ≤ s.length)
    (h : slice s a b = le32 x) : fromLe32 s a = x :=
  le32_injective ((le32_fromLe32 hb hs).trans h)

/-! ### The name field (30_encoding.md R115) -/

theorem hasNul_eq_true_iff (s : List Byte) : hasNul s = true ↔ 0#8 ∈ s := by
  simp [hasNul]

theorem hasNul_eq_false_iff (s : List Byte) : hasNul s = false ↔ 0#8 ∉ s := by
  rw [← hasNul_eq_true_iff, Bool.not_eq_true]

/-- A name of at most 63 bytes is followed by its NUL. -/
theorem nameField_eq_cons {name : List Byte} (h : name.length ≤ 63) :
    nameField name = name ++ 0#8 :: List.replicate (63 - name.length) 0#8 := by
  rw [nameField, ← List.replicate_succ, show 63 - name.length + 1 = 64 - name.length by omega]

/-- What stands before the first NUL of an encoded name is the name. -/
theorem untilNul_append_nul {name : List Byte} (h : ∀ b ∈ name, b ≠ 0#8) (t : List Byte) :
    untilNul (name ++ 0#8 :: t) = name := by
  have hname : ∀ b ∈ name, (b != 0#8) = true := fun b hb => bne_iff_ne.2 (h b hb)
  rw [untilNul, List.takeWhile_append_of_pos hname, List.takeWhile_cons_of_neg (by decide), List.append_nil]

/-- A name field whose name is encoded again keeps the name and is 0x00 from the name's end on. -/
theorem nameField_untilNul_getElem? {field : List Byte} {j : Nat} (hj : j < 64) :
    (nameField (untilNul field))[j]? = if (untilNul field).length ≤ j then some 0#8 else field[j]? := by
  rw [nameField]
  split
  · rw [List.getElem?_append_right ‹_›, List.getElem?_replicate_of_lt (by omega)]
  · have hlt : j < (untilNul field).length := by omega
    have hprefix : untilNul field <+: field := List.takeWhile_prefix _
    rw [List.getElem?_append_left hlt, List.prefix_iff_getElem?.1 hprefix j hlt, List.getElem?_eq_getElem hlt]

/-! ### The layout of an encoded header (R113, R172) -/

/-- Settles O59, by cutting the fields off the front one after another. -/
theorem headerLayout : Obligations.HeaderLayout := by
  intro h cfg hname e
  have hfield : (nameField h.fileName).length = 64 := nameField_length _ (by omega)
  have hlen : (headerBody h).length = 84 := headerBody_length h (by omega)
  have hbody : slice e 0 84 = headerBody h := slice_append_left _ hlen
  have hcheck : slice e 84 88 = le32 (checksum cfg (headerBody h)) := by
    rw [show e = headerBody h ++ le32 (checksum cfg (headerBody h)) from rfl, slice_append_right _ hlen (by omega)]
    exact slice_zero_length (le32_length _)
  have skipWord {a b : Nat} (x : Word) (t : List Byte) := slice_append_right (a := a) (b := b) t (le32_length x)
  have skipName {a b : Nat} (t : List Byte) := slice_append_right (a := a) (b := b) t hfield
  have word (x : Word) (t : List Byte) := slice_append_left t (le32_length x)
  rw [hbody, hcheck, ← nameField_eq_cons hname]
  -- Every other field: skip the fields before it, then take it.
  refine ⟨encodeHeader_length h cfg (by omega), ?_, ?_, ?_, ?_, ?_, ?_, rfl, fun _ => rfl⟩ <;>
    simp only [e, encodeHeader, headerBody, List.append_assoc, skipWord, skipName, word, slice_append_left _ hfield,
      Nat.reduceLeDiff, Nat.reduceSub]

/-! ### The checks of decode (R173) -/

section Checks
variable {cap : Nat} {cfg : CrcCfg} {strict : Bool} {s : List Byte}

theorem decodeHeader_negFilesize (hfs : (fromLe32 s 0).toInt < 0) :
    decodeHeader cap cfg strict s = .error .negFilesize :=
  if_pos hfs

theorem decodeHeader_badChunksize (hfs : 0 ≤ (fromLe32 s 0).toInt)
    (hcs : (fromLe32 s 4).toInt < 5 ∨ (cap : Int) < (fromLe32 s 4).toInt) :
    decodeHeader cap cfg strict s = .error .badChunksize :=
  (if_neg hfs.not_gt).trans (if_pos hcs)

/-- With both sizes in range the verdict is the name's and the checksum's. -/
theorem decodeHeader_of_sizes (hfs : 0 ≤ (fromLe32 s 0).toInt) (hlo : 5 ≤ (fromLe32 s 4).toInt)
    (hhi : (fromLe32 s 4).toInt ≤ (cap : Int)) :
    decodeHeader cap cfg strict s =
      if 0#8 ∉ slice s 12 76 then .error .nameUnterminated
      else if strict = true ∧ checksum cfg (s.take 84) ≠ fromLe32 s 84 then .error .badChecksum
      else .ok (headerFields s) := by
  have hsizes : ¬ ((fromLe32 s 4).toInt < 5 ∨ (cap : Int) < (fromLe32 s 4).toInt) := by omega
  refine (if_neg hfs.not_gt).trans ((if_neg hsizes).trans ?_)
  simp only [headerNameField, hasNul_eq_false_iff]
  rfl

/-- An accepted header is the fields of the bytes, and under strict checks the checksum agreed. -/
theorem decodeHeader_fields {h : Header} (hok : decodeHeader cap cfg strict s = .ok h) :
    h = headerFields s ∧ (strict = true → headerCalc cfg s = h.crcCheck) := by
  simp only [decodeHeader] at hok
  split_ifs at hok with _ _ _ hcheck
  cases hok
  exact ⟨rfl, fun hstrict => not_not.1 fun hne => hcheck ⟨hstrict, hne⟩⟩

end Checks

/-- Settles O36, one check after another. -/
theorem headerChecksInOrder : Obligations.HeaderChecksInOrder := by
  intro cap cfg strict s _
  refine ⟨decodeHeader_negFilesize, fun hfs => ⟨decodeHeader_badChunksize hfs, fun hlo hhi => ?_⟩⟩
  rw [decodeHeader_of_sizes hfs hlo hhi]
  refine ⟨fun hnul => if_pos hnul, fun hnul hstrict hcrc => ?_, fun hnul hcrc => ?_⟩
  · rw [if_neg (not_not.2 hnul), if_pos ⟨hstrict, hcrc⟩]
  · rw [if_neg (not_not.2 hnul), if_neg fun ⟨hstrict, hne⟩ => hne (hcrc hstrict)]
    rfl

/-! ### The round trip (R175) -/

/-- A valid header's fields are read back from its encoding. -/
theorem headerFields_encodeHeader {cap : Nat} {cfg : CrcCfg} {h : Header} (hv : h.Valid cap cfg) :
    headerFields (encodeHeader h cfg) = h := by
  obtain ⟨-, -, -, hname, hnul, hcrc⟩ := hv
  obtain ⟨hlen, hfs, hcs, hcx, hfield, hpoly, hinit, hcheck, -⟩ := headerLayout h cfg hname
  have word {a b : Nat} {x : Word} (hb : a + 4 = b) (hle : b ≤ 88) := fromLe32_of_slice (x := x) hb (hlen ▸ hle)
  rw [headerFields, word rfl (by omega) hfs, word rfl (by omega) hcs, word rfl (by omega) hcx, headerNameField, hfield,
    untilNul_append_nul hnul, word rfl (by omega) hpoly, word rfl (by omega) hinit, word rfl (by omega) hcheck,
    ← hcrc]

/-- The recomputed checksum of an encoded valid header is its `crcCheck` (R173, R175). -/
theorem headerCalc_encodeHeader {cap : Nat} {cfg : CrcCfg} {h : Header} (hv : h.Valid cap cfg) :
    headerCalc cfg (encodeHeader h cfg) = h.crcCheck := by
  obtain ⟨-, -, -, -, -, hcrc⟩ := hv
  exact hcrc.symm

theorem decodeHeader_encodeHeader {cap : Nat} {cfg : CrcCfg} {h : Header} (strict : Bool) (hv : h.Valid cap cfg) :
    decodeHeader cap cfg strict (encodeHeader h cfg) = .ok h := by
  have hfields := headerFields_encodeHeader hv
  have hcheck : checksum cfg ((encodeHeader h cfg).take 84) = fromLe32 (encodeHeader h cfg) 84 :=
    (headerCalc_encodeHeader hv).trans (congrArg Header.crcCheck hfields.symm)
  obtain ⟨hfs, hlo, hhi, hname, -, -⟩ := hv
  obtain ⟨-, -, -, -, hfield, -⟩ := headerLayout h cfg hname
  have hnul : 0#8 ∈ slice (encodeHeader h cfg) 12 76 := by rw [hfield]; exact List.mem_append_cons_self
  rw [← hfields] at hfs hlo hhi
  rw [decodeHeader_of_sizes hfs hlo hhi, if_neg (not_not.2 hnul), if_neg fun hc => hc.2 hcheck, hfields]

theorem headerFields_fileName_length {s : List Byte} (hs : s.length = 88) : (headerFields s).fileName.length ≤ 64 :=
  (untilNul_length_le _).trans_eq (slice_length s 12 76 (by omega))

/-- The first 84 bytes of the encoding of the fields of 88 bytes. -/
theorem headerBody_headerFields {s : List Byte} (hs : s.length = 88) :
    headerBody (headerFields s) = slice s 0 12 ++ nameField (untilNul (headerNameField s)) ++ slice s 76 84 := by
  have word {a b : Nat} (hb : a + 4 = b) (hle : b ≤ 88) := le32_fromLe32 (s := s) hb (hs ▸ hle)
  calc headerBody (headerFields s)
    _ = slice s 0 4 ++ slice s 4 8 ++ slice s 8 12 ++ nameField (untilNul (headerNameField s)) ++ slice s 76 80 ++
        slice s 80 84 := by
      rw [headerBody, headerFields, word rfl (by omega), word rfl (by omega), word rfl (by omega), word rfl (by omega),
        word rfl (by omega)]
    _ = _ := by
      rw [slice_append_slice s (by omega) (by omega), slice_append_slice s (by omega) (by omega), List.append_assoc,
        slice_append_slice s (by omega) (by omega)]

/-- They are bytes 0 to 83, with 0x00 from the name's end to the end of its field. -/
theorem headerBody_headerFields_getElem? {s : List Byte} (hs : s.length = 88) {i : Nat} (hi : i < 84) :
    (headerBody (headerFields s))[i]? =
      if 12 + (headerFields s).fileName.length ≤ i ∧ i < 76 then some 0#8 else s[i]? := by
  have hfront : (slice s 0 12).length = 12 := slice_length s 0 12 (by omega)
  have hname : (nameField (untilNul (headerNameField s))).length = 64 :=
    nameField_length _ (headerFields_fileName_length hs)
  rw [headerBody_headerFields hs, List.append_assoc]
  by_cases hlo : i < 12
  · rw [if_neg (by omega), List.getElem?_append_left (by omega), getElem?_slice _ _ _ _ hlo, Nat.zero_add]
  rw [List.getElem?_append_right (by omega), hfront]
  by_cases hhi : i < 76
  · rw [List.getElem?_append_left (by omega), nameField_untilNul_getElem? (by omega), headerNameField,
      getElem?_slice _ _ _ _ (by omega), Nat.add_sub_cancel' (by omega)]
    exact if_congr (by simp only [headerFields, headerNameField]; omega) rfl rfl
  · rw [if_neg (by omega), List.getElem?_append_right (by omega), hname, getElem?_slice _ _ _ _ (by omega),
      show 76 + (i - 12 - 64) = i by omega]

/-- With nothing but 0x00 after the name they are bytes 0 to 83 themselves. -/
theorem headerBody_headerFields_of_padding {s : List Byte} (hs : s.length = 88)
    (hpad : ∀ i : Nat, 12 + (headerFields s).fileName.length ≤ i → i < 76 → s[i]? = some 0#8) :
    headerBody (headerFields s) = slice s 0 84 := by
  have hlen := headerBody_length _ (headerFields_fileName_length hs)
  have hslice : (slice s 0 84).length = 84 := slice_length s 0 84 (by omega)
  refine List.ext_getElem? fun i => ?_
  by_cases hi : i < 84
  · rw [headerBody_headerFields_getElem? hs hi, getElem?_slice _ _ _ _ hi, Nat.zero_add]
    split
    · next hin => exact (hpad i hin.1 hin.2).symm
    · rfl
  · rw [List.getElem?_eq_none (by omega), List.getElem?_eq_none (by omega)]

/-- Bytes 84 to 87 come back too where the checksum is right and the padding is 0x00. -/
theorem encodeHeader_headerFields {cfg : CrcCfg} {s : List Byte} (hs : s.length = 88)
    (hcheck : headerCalc cfg s = (headerFields s).crcCheck)
    (hpad : ∀ i : Nat, 12 + (headerFields s).fileName.length ≤ i → i < 76 → s[i]? = some 0#8) :
    encodeHeader (headerFields s) cfg = s :=
  calc encodeHeader (headerFields s) cfg
    _ = slice s 0 84 ++ le32 (headerCalc cfg s) := by
      rw [encodeHeader, headerBody_headerFields_of_padding hs hpad, headerCalc]
    _ = slice s 0 84 ++ slice s 84 88 := by
      rw [hcheck, headerFields, le32_fromLe32 rfl (by omega)]
    _ = s := by rw [slice_append_slice s (by omega) (by omega), slice_zero_length hs]

/-- Settles O60: the fields of an encoding are the header, and the encoding of the fields differs in the padding. -/
theorem headerRoundTrip : Obligations.HeaderRoundTrip := by
  refine ⟨fun cap cfg h strict hv => ⟨decodeHeader_encodeHeader strict hv, headerCalc_encodeHeader hv⟩,
    fun cap cfg h strict s hs hok => ?_⟩
  obtain ⟨rfl, hcheck⟩ := decodeHeader_fields hok
  have hlen := headerBody_length _ (headerFields_fileName_length hs)
  refine ⟨fun i hi => ?_, fun hstrict hpad => encodeHeader_headerFields hs (hcheck hstrict) hpad⟩
  rw [encodeHeader, List.getElem?_append_left (by omega), headerBody_headerFields_getElem? hs hi]

end Sys2Proof.Machine
end

section
/-! The statements about the sender's program (42_sender.md): its waits, its transmissions, its load, and the two
verdicts. -/

namespace Sys2Proof.Machine

/-! ### The verdicts (44_control_bytes.md R286, R287) -/

section Verdicts

variable {s : State}

theorem exec_sok_of_wait (h : s.pos = .sWaitVerdict) : exec .sok s = .next (senderSok s) := by
  simp only [exec, execSok, h]

theorem exec_sok_of_ne (h : s.pos ≠ .sWaitVerdict) : exec .sok s = .next s := by
  simp only [exec, execSok, State.discardByte]

theorem exec_nok_of_wait (h : s.pos = .sWaitVerdict) : exec .nok s = .next (senderNok s) := by
  simp only [exec, execNok, h]

theorem exec_nok_of_ne (h : s.pos ≠ .sWaitVerdict) : exec .nok s = .next s := by
  simp only [exec, execNok, State.discardByte]

theorem nextChunk_of_lt (again close : Pos) (h : s.res.chunkIdx < s.res.numFull) :
    s.nextChunk again close = s.startChunk (s.res.chunkIdx + 1#32) again := if_pos h

theorem nextChunk_of_not_lt (again close : Pos) (h : ¬ s.res.chunkIdx < s.res.numFull) :
    s.nextChunk again close = s.goto close := if_neg h

/-- Below the limit one more NOK fits in the counter (10_state.md R47). -/
theorem retryCnt_add_one (h : s.res.retryCnt.toNat < s.sess.rc.toNat) :
    (s.res.retryCnt + 1#8).toNat = s.res.retryCnt.toNat + 1 := by
  have := s.sess.rc.isLt
  rw [BitVec.toNat_add, BitVec.toNat_ofNat]
  omega

theorem nokVerdict_retries {again : Pos} {advance : State → State} (h : s.res.retryCnt + 1#8 < s.sess.rc) :
    s.nokVerdict again advance = s.countNok.goto again := if_pos h

/-- A sender that may count no further NOK closes its file with the outcome it has raised (R209, 60_exceptions.md
R335). -/
theorem nokVerdict_aborts {again : Pos} {advance : State → State} (h : ¬ s.res.retryCnt + 1#8 < s.sess.rc)
    (hstrict : s.sess.rstrict = true) (hdir : s.sess.dir = .send) :
    s.nokVerdict again advance =
      { s.countNok with exhausted := true }.goto (.sClose (.raised .retryExhausted .retryLimit)) := by
  simp [State.nokVerdict, h, hstrict, State.raise, hdir]

theorem nokVerdict_advances {again : Pos} {advance : State → State} (h : ¬ s.res.retryCnt + 1#8 < s.sess.rc)
    (hlenient : s.sess.rstrict = false) :
    s.nokVerdict again advance = advance { s.countNok with exhausted := true } := by
  simp [State.nokVerdict, h, hlenient]

end Verdicts

/-- Settles O7, by whether the chunk was the last. -/
theorem sokAdvancesTheSender : Obligations.SokAdvancesTheSender := by
  refine fun s => ⟨fun hp hlt => ?_, fun hp hlast => ?_, exec_sok_of_ne⟩
  · rw [exec_sok_of_wait hp, senderSok, senderNextChunk, nextChunk_of_lt _ _ hlt]
    rfl
  · rw [exec_sok_of_wait hp, senderSok, senderNextChunk, nextChunk_of_not_lt _ _ hlast]
    rfl

/-- Settles O8, by the three cases of the verdict NOK. -/
theorem nokRetriesOrExhausts : Obligations.NokRetriesOrExhausts := by
  refine fun s => ⟨fun hp hdir hr => ?_, exec_nok_of_ne⟩
  have hcount := retryCnt_add_one hr
  have hlimit : s.res.retryCnt + 1#8 < s.sess.rc ↔ s.res.retryCnt.toNat + 1 < s.sess.rc.toNat := by
    rw [BitVec.lt_def, hcount]
  refine ⟨hcount, fun hlt => ?_, fun heq hstrict => ?_, fun heq hlenient => ?_⟩
  · rw [exec_nok_of_wait hp, senderNok, nokVerdict_retries (hlimit.2 hlt)]
    rfl
  · rw [exec_nok_of_wait hp, senderNok, nokVerdict_aborts (mt hlimit.1 (by omega)) hstrict hdir]
    rfl
  · rw [exec_nok_of_wait hp, senderNok, nokVerdict_advances (mt hlimit.1 (by omega)) hlenient]
    refine ⟨fun hidx => ?_, fun hidx => ?_⟩
    · exact congrArg Host.Outcome.next (nextChunk_of_lt (s := { s.countNok with exhausted := true }) _ _ hidx)
    · exact congrArg Host.Outcome.next
        (nextChunk_of_not_lt (s := { s.countNok with exhausted := true }) _ _ hidx.not_gt)

/-! ### Runs of the block alone -/

/-- With an empty agenda a step answers what the block's turn answers. -/
theorem step_of_block {s : State} {r : Result} (hag : s.agenda = []) (h : blockStep s = r) : step s = r :=
  (step_nil hag).trans h

/-! ### Runs at a handshake wait (20_memory.md R90, 30_encoding.md R112) -/

/-- Bytes without the one that ends the wait are none that it expects. -/
theorem expects_eq_false_of_notMem {p : Pos} {c : Byte} {junk : List Byte} (hp : ∀ b, p.expects b = (b == c))
    (hc : c ∉ junk) : ∀ b ∈ junk, p.expects b = false := by
  intro b hb
  rw [hp, beq_eq_false_iff_ne]
  exact fun h => hc (h ▸ hb)

/-- At a handshake wait the block removes the bytes that the wait does not expect, one a step. -/
theorem runSteps_discards {rest : List Byte} : ∀ {junk : List Byte} {s : State}, s.agenda = [] →
    s.pos.handshakeWait = true → (∀ b ∈ junk, s.pos.expects b = false) → s.rxq = junk ++ rest →
    runSteps junk.length s = .next { s with rxq := rest }
  | [], s, _, _, _, hq => by
    have hrest : s.rxq = rest := hq
    rw [← hrest]
    rfl
  | b :: junk, s, hag, hwait, hjunk, hq => by
    have hstep : step s = .next { s with rxq := junk ++ rest } :=
      step_of_block hag (unexpectedBytesAreDiscarded.1 s b _ hwait hq (hjunk b List.mem_cons_self))
    rw [List.length_cons, runSteps_next hstep]
    exact runSteps_discards (s := { s with rxq := junk ++ rest }) hag hwait
      (fun c hc => hjunk c (List.mem_cons_of_mem b hc)) rfl

section Waits

variable {s : State} {junk : List Byte} (hag : s.agenda = []) (hwait : s.pos.handshakeWait = true)
  (hjunk : ∀ b ∈ junk, s.pos.expects b = false)
include hag hwait hjunk

/-- With nothing it expects in `rxq` the block discards what there is and holds. -/
theorem runSteps_wait_holds (hq : s.rxq = junk) (n : Nat) :
    runSteps (junk.length + n) s = .next { s with rxq := [] } := by
  have hdrop : runSteps junk.length s = .next { s with rxq := [] } :=
    runSteps_discards hag hwait hjunk (by rw [hq, List.append_nil])
  have hhold : step { s with rxq := [] } = .next { s with rxq := [] } :=
    step_of_block hag (blockStep_wait_hold hwait rfl)
  rw [runSteps_add n hdrop, runSteps_hold hhold]

/-- The byte that the block takes after those it discards is run. -/
theorem runSteps_wait_ends {rest : List Byte} {b : Byte} (hq : s.rxq = junk ++ b :: rest) :
    runSteps (junk.length + 1) s = exec (decodeCtrl b) { s with rxq := rest } := by
  rw [runSteps_add 1 (runSteps_discards hag hwait hjunk hq), runSteps_one]
  exact step_of_block hag (blockStep_control hwait rfl)

end Waits

/-- Settles O32, from what a wait does with the bytes before the verdict. -/
theorem senderAwaitsTheVerdict : Obligations.SenderAwaitsTheVerdict := by
  intro s junk rest hp hag hsok hnok
  have hwait : s.pos.handshakeWait = true := by rw [hp]; rfl
  have hjunk : ∀ b ∈ junk, s.pos.expects b = false := by
    intro b hb
    rw [hp, Pos.expects, Bool.or_eq_false_iff, beq_eq_false_iff_ne, beq_eq_false_iff_ne]
    exact ⟨fun h => hsok (h ▸ hb), fun h => hnok (h ▸ hb)⟩
  exact ⟨runSteps_wait_ends hag hwait hjunk, runSteps_wait_ends hag hwait hjunk,
    runSteps_wait_holds hag hwait hjunk⟩

theorem exec_sync_of_senderWait {s : State} (hp : s.pos = .sWaitSync) :
    exec .sync s = .next { s with pos := .sEchoSync } := by
  simp only [exec, execSync, hp]
  rfl

/-- Settles O31: the wait, and then the echo. -/
theorem senderEchoesSync : Obligations.SenderEchoesSync := by
  intro s junk rest hp hag hsync
  have hwait : s.pos.handshakeWait = true := by rw [hp]; rfl
  have hjunk := expects_eq_false_of_notMem (p := s.pos) (fun _ => by rw [hp]; rfl) hsync
  refine ⟨fun hq => ?_, runSteps_wait_holds hag hwait hjunk⟩
  have hseen : runSteps (junk.length + 1) s = .next { s with rxq := rest, pos := .sEchoSync } := by
    rw [runSteps_wait_ends hag hwait hjunk hq]
    exact exec_sync_of_senderWait hp
  rw [show junk.length + 2 = junk.length + 1 + 1 from rfl, runSteps_add 1 hseen, runSteps_one]
  exact step_of_block hag rfl

/-! ### The header (R202) -/

/-- What a buffer holds after `l` is written from address 0 on. -/
theorem Memory.writeRange_zero {m : Memory} {l : List Byte} {n : Nat} (hm : m.wf = true) (hn : l.length = n) :
    (m.writeRange 0 l).wf = true ∧ (m.writeRange 0 l).readRange 0 n = l ∧
      ∀ a, n ≤ a → (m.writeRange 0 l).read a = m.read a := by
  subst hn
  exact ⟨Memory.writeRange_wf 0 l hm, Memory.readRange_writeRange l m 0 hm,
    fun a ha => Memory.read_writeRange_other l m 0 (.inr (by omega))⟩

theorem senderHeaderRecord_length (s : State) : (encodeHeader (senderHeaderRecord s) s.sess.cfg).length = 88 :=
  encodeHeader_length _ _ ((untilNul_length_le _).trans_eq (nameBytes_length s.name))

/-- The peer's BOT takes the sender to header byte 0, with the 88 bytes of its header in HBUF (R201, R202). -/
theorem exec_bot_of_awaitPeer {s : State} (hp : s.pos = .sAwaitPeer) :
    ∃ hb : Memory, exec .bot s = .next { s with hbuf := hb, pos := .sHeader 0 } ∧
      (s.hbuf.wf = true → hb.wf = true ∧ hb.readRange 0 88 = encodeHeader (senderHeaderRecord s) s.sess.cfg ∧
        ∀ a, 88 ≤ a → hb.read a = s.hbuf.read a) := by
  refine ⟨_, ?_, fun hwf => Memory.writeRange_zero hwf (senderHeaderRecord_length s)⟩
  simp only [exec, execBot, hp]
  rfl

/-- Settles O27: the sender's BOT, and then the wait for the peer's. -/
theorem senderOpensTheSession : Obligations.SenderOpensTheSession := by
  intro s junk rest hp hag hbot
  have hstep : step s = .next { s with txq := s.txq ++ [0x02#8], pos := .sAwaitPeer } :=
    step_of_block hag (by rw [blockStep, hp]; rfl)
  have hjunk := expects_eq_false_of_notMem (p := .sAwaitPeer) (fun _ => rfl) hbot
  have hagenda : { s with txq := s.txq ++ [0x02#8], pos := .sAwaitPeer }.agenda = [] := hag
  refine ⟨fun hq => ?_, fun hq n => ?_⟩
  · rw [runSteps_next hstep, runSteps_wait_ends hagenda rfl hjunk hq]
    exact exec_bot_of_awaitPeer rfl
  · rw [show junk.length + 1 + n = junk.length + n + 1 by omega, runSteps_next hstep]
    exact runSteps_wait_holds hagenda rfl hjunk hq n

/-! ### Transmissions (R202, R205) -/

/-- Reading one more byte from address 0 on. -/
theorem Memory.readRange_zero_succ (m : Memory) (n : Nat) : m.readRange 0 (n + 1) = m.readRange 0 n ++ [m.read n] := by
  rw [Memory.readRange_add, Nat.zero_add]
  rfl

/-- A counted transmission from a buffer `m`: if at the position of each byte the block sends that byte and goes on to
the next, it has sent the first `k` bytes where it stands at byte `k`. -/
theorem runSteps_transmits {s : State} {m : Memory} {atByte : Nat → Pos} {n : Nat} (hag : s.agenda = [])
    (hp : s.pos = atByte 0)
    (hsend : ∀ k < n, ∀ txq, blockStep { s with txq := txq, pos := atByte k } =
      .next { s with txq := txq ++ [m.read k], pos := atByte (k + 1) }) :
    ∀ k ≤ n, runSteps k s = .next { s with txq := s.txq ++ m.readRange 0 k, pos := atByte k }
  | 0, _ => by
    rw [Memory.readRange, List.append_nil, ← hp]
    rfl
  | k + 1, hk => by
    rw [runSteps_add 1 (runSteps_transmits hag hp hsend k (by omega)), runSteps_one,
      Memory.readRange_zero_succ m k, ← List.append_assoc]
    exact step_of_block hag (hsend k hk _)

/-- From header byte 0 the sender transmits the 88 bytes of HBUF and starts chunk 0. -/
theorem runSteps_header {s : State} (hag : s.agenda = []) (hp : s.pos = .sHeader 0) :
    runSteps 88 s = .next ({ s with txq := s.txq ++ s.hbuf.readRange 0 88 }.startChunk 0#32 .sLoad) := by
  have hsend : ∀ k < 87, ∀ txq, blockStep { s with txq := txq, pos := .sHeader k } =
      .next { s with txq := txq ++ [s.hbuf.read k], pos := .sHeader (k + 1) } := by
    intro k hk txq
    have hmore : k + 1 < hdrSize := Nat.succ_lt_succ hk
    simp only [blockStep, senderHeader, if_pos (Nat.lt_of_succ_lt hmore), if_pos hmore]
    rfl
  rw [show 88 = 87 + 1 from rfl, runSteps_add 1 (runSteps_transmits hag hp hsend 87 (Nat.le_refl _)), runSteps_one,
    Memory.readRange_zero_succ s.hbuf 87, ← List.append_assoc]
  exact step_of_block hag rfl

/-- Settles O28: the peer's BOT, and then the header's bytes. -/
theorem senderSendsTheHeader : Obligations.SenderSendsTheHeader := by
  intro s rest hp hag hq hwf header
  obtain ⟨hb, hbot, hbytes⟩ := exec_bot_of_awaitPeer (s := { s with rxq := rest }) hp
  obtain ⟨hhb, hread, hother⟩ := hbytes hwf
  refine ⟨hb, hhb, hread, hother, ?_⟩
  have hstep : step s = .next { s with rxq := rest, hbuf := hb, pos := .sHeader 0 } := by
    rw [step_nil hag, blockStep_control (by rw [hp]; rfl) hq]
    exact hbot
  have hheader : hb.readRange 0 88 = header := hread
  rw [show 89 = 88 + 1 from rfl, runSteps_next hstep, ← hheader]
  exact runSteps_header hag rfl

/-- From the first byte of an attempt the sender transmits the bytes of BUF, the trailer's last. -/
theorem runSteps_chunk {s : State} (hag : s.agenda = []) (hp : s.pos = .sChunk 0)
    (hfit : s.chunkBytes ≤ s.params.chunkBufSize) :
    (∀ k < s.chunkBytes,
      runSteps k s = .next { s with txq := s.txq ++ s.buf.readRange 0 k, pos := .sChunk k }) ∧
    runSteps s.chunkBytes s =
      .next { s with txq := s.txq ++ s.buf.readRange 0 s.chunkBytes, pos := .sWaitSync } := by
  have hturn : ∀ k < s.chunkBytes, ∀ txq, blockStep { s with txq := txq, pos := .sChunk k } =
      .next { s with
        txq := txq ++ [s.buf.read k], pos := if k + 1 < s.chunkBytes then .sChunk (k + 1) else .sWaitSync } :=
    fun k hk txq => if_pos (Nat.lt_of_lt_of_le hk hfit)
  have hsend : ∀ k < s.sess.len.toNat + 3, ∀ txq, blockStep { s with txq := txq, pos := .sChunk k } =
      .next { s with txq := txq ++ [s.buf.read k], pos := .sChunk (k + 1) } := by
    intro k hk txq
    have hmore : k + 1 < s.chunkBytes := Nat.succ_lt_succ hk
    rw [hturn k (Nat.lt_succ_of_lt hk), if_pos hmore]
  have hrun := runSteps_transmits hag hp hsend
  refine ⟨fun k hk => hrun k (Nat.le_of_lt_succ hk), ?_⟩
  have hlast : ∀ txq, blockStep { s with txq := txq, pos := .sChunk (s.sess.len.toNat + 3) } =
      .next { s with txq := txq ++ [s.buf.read (s.sess.len.toNat + 3)], pos := .sWaitSync } := by
    intro txq
    have hdone : ¬ s.sess.len.toNat + 3 + 1 < s.chunkBytes := Nat.lt_irrefl _
    rw [hturn _ (Nat.lt_succ_self _), if_neg hdone]
  rw [show s.chunkBytes = s.sess.len.toNat + 3 + 1 from rfl, runSteps_add 1 (hrun _ (Nat.le_refl _)), runSteps_one,
    Memory.readRange_zero_succ s.buf (s.sess.len.toNat + 3), ← List.append_assoc]
  exact step_of_block hag (hlast _)

/-- Settles O30: the discard, and then the chunk's bytes. -/
theorem senderTransmitsTheChunkAsOneUnit : Obligations.SenderTransmitsTheChunkAsOneUnit := by
  intro s hp hag hfit
  obtain ⟨k, hk, hdrop⟩ := discardFrom_eq_drop s.draws s.rxq
  have hdiscard : step s = .next { s with rxq := s.rxq.drop k, draws := s.draws + 1, pos := .sChunk 0 } := by
    rw [← hdrop]
    exact step_of_block hag (by rw [blockStep, hp]; rfl)
  obtain ⟨hsent, hall⟩ :=
    runSteps_chunk (s := { s with rxq := s.rxq.drop k, draws := s.draws + 1, pos := .sChunk 0 }) hag rfl hfit
  refine ⟨k, hk, fun n hn => ?_, ?_⟩
  · rw [runSteps_next hdiscard]
    exact hsent n (Nat.lt_succ_of_le hn)
  · rw [runSteps_next hdiscard]
    exact hall

/-! ### Requests of the file port (20_memory.md R92, 45_host_commands.md R314) -/

/-- The block issues a request, the host answers it as the request admits, and the block takes the answer. -/
theorem runSteps_request {s : State} {r : FileRequest} {x : FileAnswer} {p : Pos} {rest : List Turn}
    {k : State → FileAnswer → Result} (ha : s.answer = none) (hx : r.admits x = true)
    (hag : s.agenda = .block :: .answer x :: .block :: rest)
    (hissue : ∀ agenda, blockStep { s with agenda := agenda } = .next ({ s with agenda := agenda }.issue r p))
    (htake : ∀ t : State, t.pos = p → blockStep t = t.takeAnswer k) :
    runSteps 1 s = .next { s with agenda := .answer x :: .block :: rest, pending := some r, pos := p } ∧
    runSteps 3 s =
      k { s with agenda := rest, pending := none, pos := p, sinkFile := sinkAfter r x s.sinkFile } x := by
  have hissued : step s = .next { s with agenda := .answer x :: .block :: rest, pending := some r, pos := p } := by
    rw [step_cons hag, takeTurn_block, hissue]
    rfl
  have hanswered : step { s with agenda := .answer x :: .block :: rest, pending := some r, pos := p } = .next { s with
      agenda := .block :: rest, pending := some r, pos := p, answer := some x
      sinkFile := sinkAfter r x s.sinkFile } := hostAnswer_admitted rfl ha hx
  refine ⟨(runSteps_one s).trans hissued, ?_⟩
  rw [show 3 = 1 + 1 + 1 from rfl, runSteps_next hissued, runSteps_next hanswered, runSteps_one, step_cons rfl,
    takeTurn_block, htake _ rfl, State.takeAnswer_some rfl rfl hx, State.portDone, ← ha]

/-- What a payload and its trailer leave in BUF: the two, one after the other. -/
theorem senderChunkLoaded_eq {s : State} {payload : List Byte} (hlen : payload.length = s.sess.len.toNat)
    (hfit : s.chunkBytes ≤ s.params.chunkBufSize) :
    senderChunkLoaded s payload = .next { s with
      buf := s.buf.writeRange 0 (payload ++ le32 (checksum s.sess.cfg payload)), pos := .sDiscard } := by
  rw [senderChunkLoaded, if_pos hfit, Memory.writeRange_append, Nat.zero_add, hlen]

/-- Settles O29, answer by answer. -/
theorem senderLoadsTheChunk : Obligations.SenderLoadsTheChunk := by
  intro s rest hp ha
  have hissue : ∀ agenda, blockStep { s with agenda := agenda } =
      .next ({ s with agenda := agenda }.issue (.srcRead (s.res.chunkIdx * s.sess.p) s.sess.len) .sLoadAns) :=
    fun agenda => by simp only [blockStep, hp]; rfl
  have htake : ∀ t : State, t.pos = .sLoadAns → blockStep t = t.takeAnswer senderLoadAnswer :=
    fun t ht => by rw [blockStep, ht]
  refine ⟨fun payload hag hlen hfit hwf => ?_, fun hag hdir => ?_⟩
  · have hadmit : (FileRequest.srcRead (s.res.chunkIdx * s.sess.p) s.sess.len).admits (.data payload) = true :=
      beq_iff_eq.2 hlen
    obtain ⟨hissued, hrun⟩ := runSteps_request ha hadmit hag hissue htake
    have hchunk : (payload ++ le32 (checksum s.sess.cfg payload)).length = s.sess.len.toNat + 4 := by
      rw [List.length_append, hlen, le32_length]
    obtain ⟨hB, hread, hother⟩ := Memory.writeRange_zero hwf hchunk
    refine ⟨hissued, _, hB, hread, hother, ?_⟩
    rw [hrun, senderLoadAnswer, if_pos hlen]
    exact senderChunkLoaded_eq hlen hfit
  · obtain ⟨-, hrun⟩ := runSteps_request ha rfl hag hissue htake
    rw [hrun, senderLoadAnswer, State.raise, hdir]
    rfl

end Sys2Proof.Machine
end

section
/-! The statements about the chunk sequence of a session (42_sender.md R203, 43_receiver.md R244): how CHUNK_IDX moves,
and what a session that ends in success has done. -/

namespace Sys2Proof.Machine

/-- The sizes of the chunk sequence: NUM_FULL, REM_SIZE and `P` (30_encoding.md R117). -/
def State.sizes (s : State) : Word × Word × Word := (s.res.numFull, s.res.remSize, s.sess.p)

theorem State.sizes_eq_iff {s t : State} :
    t.sizes = s.sizes ↔ t.res.numFull = s.res.numFull ∧ t.res.remSize = s.res.remSize ∧ t.sess.p = s.sess.p := by
  simp [State.sizes]

/-- `t` has the chunk sequence of `s`, in the same session. -/
structure State.SameCounts (s t : State) : Prop where
  sizes : t.sizes = s.sizes
  idx : t.res.chunkIdx = s.res.chunkIdx
  busy : t.busy = s.busy

/-- A position that begins the close of a session that has done all its chunks (42_sender.md R210, 43_receiver.md
R251). -/
def Pos.normalClose : Pos → Bool
  | .sClose .finish | .rClose .finish => true
  | _ => false

theorem Pos.normalClose_iff (p : Pos) : p.normalClose = true ↔ p = .sClose .finish ∨ p = .rClose .finish := by
  constructor
  · intro h
    unfold Pos.normalClose at h
    split at h
    · exact .inl rfl
    · exact .inr rfl
    · cases h
  · rintro (rfl | rfl) <;> rfl

/-- The block's turn at the position `p` of `s` is done with the current chunk: it takes SOK, or the NOK that exhausts
a chunk of a lenient sender, or the acknowledged append (42_sender.md R208, R209, 43_receiver.md R250). -/
def State.ChunkDone (s : State) (p : Pos) : Prop :=
  (p = .sWaitVerdict ∧ s.rxq.head? = some 0x07#8) ∨
  (p = .sWaitVerdict ∧ s.rxq.head? = some 0x08#8 ∧ s.sess.rstrict = false ∧
    ¬ s.res.retryCnt + 1#8 < s.sess.rc) ∨
  (p = .rCommitAns ∧ s.answer = some .ack)

theorem State.ChunkDone.inChunk {s : State} {p : Pos} (h : s.ChunkDone p) : p.inChunk = true := by
  obtain ⟨rfl, -⟩ | ⟨rfl, -⟩ | ⟨rfl, -⟩ := h <;> rfl

/-- What the block's turn at the position `p` of `s` does to the chunk sequence where it leads to `t`. -/
inductive State.ChunkTurn (s : State) (p : Pos) (t : State) : Prop
  /-- the counts are left as they are; the sequence is not entered, and no normal close begins -/
  | keeps (same : s.SameCounts t) (inside : t.pos.inChunk = true → p.inChunk = true)
    (close : t.pos.normalClose = true → t.pos = p)
  /-- outside the sequence: the sizes are derived, or chunk 0 starts -/
  | enters (outside : p.inChunk = false) (idx : t.pos.inChunk = true → t.res.chunkIdx = 0#32)
    (busy : t.busy = s.busy) (close : t.pos.normalClose = false)
  /-- the next chunk starts -/
  | next (done : s.ChunkDone p) (more : s.res.chunkIdx < s.res.numFull) (sizes : t.sizes = s.sizes)
    (idx : t.res.chunkIdx = s.res.chunkIdx + 1#32) (busy : t.busy = s.busy) (close : t.pos.normalClose = false)
  /-- the last chunk is done -/
  | closes (done : s.ChunkDone p) (last : ¬ s.res.chunkIdx < s.res.numFull) (same : s.SameCounts t)
  /-- a raise ends the session, with no file to close -/
  | fails (sizes : t.sizes = s.sizes) (idx : t.res.chunkIdx = s.res.chunkIdx) (pos : t.pos = .idle)
    (outcome : t.outcome ≠ .success ∧ t.outcome ≠ .successExhausted)
  /-- the answer to the close ends the session -/
  | ends (e : Ending) (closing : p = .sCloseAns e ∨ p = .rCloseAns e) (eq : t = s.portDone.endAfterClose e)

/-- `State.ChunkTurn` of the state that a result answers. -/
def ChunkTurnAfter (s : State) (p : Pos) : Result → Prop
  | .next t => s.ChunkTurn p t
  | .fault _ | .refused _ => True

/-! ### The shared operations -/

section Operations

variable {s u : State} {p : Pos}

theorem State.ChunkTurn.hold (hp : s.pos = p) : s.ChunkTurn p s :=
  .keeps ⟨rfl, rfl, rfl⟩ (hp ▸ id) fun _ => hp

variable (hu : s.SameCounts u)
include hu

/-- A raise leaves the counts, and a session it ends at once does not end in success (60_exceptions.md R335). -/
theorem raise_chunkTurn {o : SessionOutcome} {d : Detail} (ho : o ≠ .success ∧ o ≠ .successExhausted) :
    s.ChunkTurn p (u.raise o d) := by
  obtain ⟨-, h⟩ | ⟨-, -, h⟩ | ⟨-, -, h⟩ := State.raise_cases u o d
  · exact h ▸ .keeps ⟨hu.sizes, hu.idx, hu.busy⟩ nofun nofun
  · exact h ▸ .keeps ⟨hu.sizes, hu.idx, hu.busy⟩ nofun nofun
  · exact h ▸ .fails hu.sizes hu.idx rfl ho

theorem nextChunk_chunkTurn {again close : Pos} (hdone : s.ChunkDone p) (hagain : again.normalClose = false) :
    s.ChunkTurn p (u.nextChunk again close) := by
  obtain ⟨hsizes, hidx, hbusy⟩ := hu
  obtain ⟨hnum, -, -⟩ := State.sizes_eq_iff.1 hsizes
  obtain ⟨hlt, h⟩ | ⟨hlast, h⟩ := State.nextChunk_cases u again close
  · rw [hidx, hnum] at hlt
    exact h ▸ .next hdone hlt hsizes (congrArg (· + 1#32) hidx) hbusy hagain
  · rw [hidx, hnum] at hlast
    exact h ▸ .closes hdone hlast ⟨hsizes, hidx, hbusy⟩

theorem senderNextChunk_chunkTurn (hdone : s.ChunkDone p) : s.ChunkTurn p (senderNextChunk u) :=
  nextChunk_chunkTurn hu hdone rfl

/-- The verdict NOK stays in the sequence or raises; what a lenient session does at the limit is `advance`. -/
theorem nokVerdict_chunkTurn {again : Pos} {advance : State → State} (hp : p.inChunk = true)
    (hagain : again.normalClose = false)
    (hadvance : ¬ u.res.retryCnt + 1#8 < u.sess.rc → u.sess.rstrict = false →
      s.ChunkTurn p (advance { u.countNok with exhausted := true })) :
    s.ChunkTurn p (u.nokVerdict again advance) := by
  obtain ⟨-, h⟩ | ⟨-, -, h⟩ | ⟨hlimit, hlenient, h⟩ := State.nokVerdict_cases u again advance
  · exact h ▸ .keeps ⟨hu.sizes, hu.idx, hu.busy⟩ (fun _ => hp) fun hc => absurd (hagain.symm.trans hc) nofun
  · rw [h]
    exact raise_chunkTurn (u := { u.countNok with exhausted := true }) ⟨hu.sizes, hu.idx, hu.busy⟩ (by decide)
  · exact h ▸ hadvance hlimit hlenient

end Operations

theorem portDone_sameCounts (s : State) : s.SameCounts s.portDone := ⟨rfl, rfl, rfl⟩

/-- Taking an answer holds, or goes on with the answer. -/
theorem takeAnswer_chunkTurn {s : State} {p : Pos} {k : State → FileAnswer → Result} (hp : s.pos = p)
    (hk : ∀ x, s.answer = some x → ChunkTurnAfter s p (k s.portDone x)) : ChunkTurnAfter s p (s.takeAnswer k) := by
  cases h : s.takeAnswer k with
  | next t =>
    obtain ⟨-, rfl⟩ | ⟨x, r, ha, -, -, hx⟩ := State.takeAnswer_next h
    · exact .hold hp
    · have hm := hk x ha
      rw [hx] at hm
      exact hm
  | fault | refused => trivial

/-! ### The handshake waits -/

/-- Of the control bytes only the verdicts at the sender's wait for one are done with a chunk (44_control_bytes.md). -/
theorem exec_control_chunkTurn {s t : State} {b : Byte} {r : List Byte} (hq : s.rxq = b :: r)
    (h : exec (decodeCtrl b) { s with rxq := r } = .next t) : s.ChunkTurn s.pos t := by
  have hstay : s.ChunkTurn s.pos { s with rxq := r } := .keeps ⟨rfl, rfl, rfl⟩ id fun _ => rfl
  have hsame : s.SameCounts { s with rxq := r } := ⟨rfl, rfl, rfl⟩
  have hhead {c : Byte} (hb : b = c) : s.rxq.head? = some c := by rw [hq, hb, List.head?_cons]
  cases hi : decodeCtrl b with
  | eot | lok | ok | rsd | ctrlOther =>
    rw [hi] at h
    cases h
    exact hstay
  | bot =>
    rw [hi] at h
    cases h
    split
    · exact .keeps ⟨rfl, rfl, rfl⟩ nofun nofun
    · exact .keeps ⟨rfl, rfl, rfl⟩ nofun nofun
    · exact hstay
  | sync =>
    rw [hi] at h
    cases h
    split
    · next hp => exact .keeps ⟨rfl, rfl, rfl⟩ (fun _ => congrArg Pos.inChunk hp) nofun
    · next hp => exact .keeps ⟨rfl, rfl, rfl⟩ (fun _ => congrArg Pos.inChunk hp) nofun
    · exact hstay
  | sok =>
    rw [hi] at h
    cases h
    split
    · next hp =>
      have hdone : s.ChunkDone s.pos := .inl ⟨hp, hhead (decodeCtrl_sok hi)⟩
      exact senderNextChunk_chunkTurn hsame hdone
    · exact hstay
  | nok =>
    rw [hi] at h
    cases h
    split
    · next hp =>
      refine nokVerdict_chunkTurn (again := .sDiscard) hsame (congrArg Pos.inChunk hp) rfl fun hlimit hlenient => ?_
      have hdone : s.ChunkDone s.pos := .inr (.inl ⟨hp, hhead (decodeCtrl_nok hi), hlenient, hlimit⟩)
      exact senderNextChunk_chunkTurn ⟨rfl, rfl, rfl⟩ hdone
    · exact hstay
  | _ => exact absurd (hi ▸ decodeCtrl_isControl b) nofun

theorem recvControl_chunkTurn {s : State} {p : Pos} (hp : s.pos = p) : ChunkTurnAfter s p (recvControl s) := by
  subst hp
  cases hq : s.rxq with
  | nil =>
    rw [recvControl_nil hq]
    exact .hold rfl
  | cons b r =>
    obtain ⟨t, ht⟩ := exec_answers (decodeCtrl b) { s with rxq := r }
    rw [recvControl_cons hq, ht]
    exact exec_control_chunkTurn hq ht

/-! ### The block's turn -/

section Steps

variable (s : State)

theorem senderHeader_chunkTurn (k : Nat) : ChunkTurnAfter s (.sHeader k) (senderHeader s k) := by
  unfold senderHeader
  dsimp only
  repeat' split
  · exact .keeps ⟨rfl, rfl, rfl⟩ nofun nofun
  · exact .enters rfl (fun _ => rfl) rfl rfl
  · trivial

theorem senderLoadAnswer_chunkTurn (x : FileAnswer) :
    ChunkTurnAfter s .sLoadAns (senderLoadAnswer s.portDone x) := by
  cases x with
  | ack => trivial
  | ioErr => exact raise_chunkTurn (o := .localIoError) (portDone_sameCounts s) (by decide)
  | data payload =>
    simp only [senderLoadAnswer, senderChunkLoaded]
    repeat' split
    · exact .keeps ⟨rfl, rfl, rfl⟩ id nofun
    · trivial
    · trivial

theorem senderChunk_chunkTurn (k : Nat) : ChunkTurnAfter s (.sChunk k) (senderChunk s k) := by
  unfold senderChunk
  split
  · refine .keeps ⟨rfl, rfl, rfl⟩ (fun _ => rfl) ?_
    rw [State.goto_pos]
    split <;> exact nofun
  · trivial

theorem senderCloseAnswer_chunkTurn (e : Ending) (x : FileAnswer) :
    ChunkTurnAfter s (.sCloseAns e) (senderCloseAnswer s.portDone e x) := by
  cases x with
  | ack => exact .ends e (.inl rfl) rfl
  | data | ioErr => trivial

theorem receiverHeaderDone_chunkTurn (k : Nat) {u : State} (hu : s.SameCounts u) :
    s.ChunkTurn (.rHeader k) (receiverHeaderDone u) := by
  unfold receiverHeaderDone
  dsimp only
  split
  · exact raise_chunkTurn (u := receiverReport u _) ⟨hu.sizes, hu.idx, hu.busy⟩ (by decide)
  · exact .enters rfl nofun hu.busy rfl

theorem receiverHeader_chunkTurn {k : Nat} (hp : s.pos = .rHeader k) :
    ChunkTurnAfter s (.rHeader k) (receiverHeader s k) := by
  unfold receiverHeader
  split
  · exact .hold hp
  · dsimp only
    repeat' split
    · exact .keeps ⟨rfl, rfl, rfl⟩ nofun nofun
    · exact receiverHeaderDone_chunkTurn s k ⟨rfl, rfl, rfl⟩
    · trivial

theorem receiverOpenAnswer_chunkTurn (x : FileAnswer) :
    ChunkTurnAfter s .rOpenAns (receiverOpenAnswer s.portDone x) := by
  cases x with
  | ack => exact .enters rfl (fun _ => rfl) rfl rfl
  | ioErr => exact raise_chunkTurn (o := .localIoError) (portDone_sameCounts s) (by decide)
  | data => trivial

theorem receiverChunk_chunkTurn {k : Nat} (hp : s.pos = .rChunk k) :
    ChunkTurnAfter s (.rChunk k) (receiverChunk s k) := by
  unfold receiverChunk
  split
  · exact .hold hp
  · dsimp only
    repeat' split
    · exact .keeps ⟨rfl, rfl, rfl⟩ id nofun
    · exact .keeps ⟨rfl, rfl, rfl⟩ id nofun
    · trivial

theorem receiverSendVerdict_chunkTurn : ChunkTurnAfter s .rSendVerdict (receiverSendVerdict s) := by
  unfold receiverSendVerdict
  split
  · exact .keeps ⟨rfl, rfl, rfl⟩ id nofun
  · refine nokVerdict_chunkTurn (s := s) (u := s.linkSend ctrlNOK) (again := .rSendEot) ⟨rfl, rfl, rfl⟩
      (p := .rSendVerdict) rfl rfl fun _ _ => ?_
    exact .keeps ⟨rfl, rfl, rfl⟩ id nofun

theorem receiverCommit_chunkTurn : ChunkTurnAfter s .rCommit (receiverCommit s) := by
  unfold receiverCommit
  split
  · exact .keeps ⟨rfl, rfl, rfl⟩ id nofun
  · trivial

theorem receiverCommitAnswer_chunkTurn {x : FileAnswer} (hx : s.answer = some x) :
    ChunkTurnAfter s .rCommitAns (receiverCommitAnswer s.portDone x) := by
  cases x with
  | ack => exact nextChunk_chunkTurn (again := .rSendEot) (portDone_sameCounts s) (.inr (.inr ⟨rfl, hx⟩)) rfl
  | ioErr => exact raise_chunkTurn (o := .localIoError) (portDone_sameCounts s) (by decide)
  | data => trivial

theorem receiverCloseAnswer_chunkTurn (e : Ending) (x : FileAnswer) :
    ChunkTurnAfter s (.rCloseAns e) (receiverCloseAnswer s.portDone e x) := by
  cases x with
  | ack => exact .ends e (.inr rfl) rfl
  | data | ioErr => trivial

/-- What a turn of the block does to the chunk sequence, position by position. -/
theorem blockStep_chunkTurnAfter : ChunkTurnAfter s s.pos (blockStep s) := by
  unfold blockStep
  cases hp : s.pos with
  | idle => exact .hold hp
  | sAwaitPeer | sWaitSync | sWaitVerdict | rAwaitBot | rWaitSync => exact recvControl_chunkTurn hp
  | sHeader k => exact senderHeader_chunkTurn s k
  | sLoadAns => exact takeAnswer_chunkTurn hp fun x _ => senderLoadAnswer_chunkTurn s x
  | sChunk k => exact senderChunk_chunkTurn s k
  | sCloseAns e => exact takeAnswer_chunkTurn hp fun x _ => senderCloseAnswer_chunkTurn s e x
  | rHeader k => exact receiverHeader_chunkTurn s hp
  | rOpenAns => exact takeAnswer_chunkTurn hp fun x _ => receiverOpenAnswer_chunkTurn s x
  | rChunk k => exact receiverChunk_chunkTurn s hp
  | rSendVerdict => exact receiverSendVerdict_chunkTurn s
  | rCommit => exact receiverCommit_chunkTurn s
  | rCommitAns => exact takeAnswer_chunkTurn hp fun _ hx => receiverCommitAnswer_chunkTurn s hx
  | rCloseAns e => exact takeAnswer_chunkTurn hp fun x _ => receiverCloseAnswer_chunkTurn s e x
  | _ => exact .keeps ⟨rfl, rfl, rfl⟩ id nofun

end Steps

/-! ### Every turn of a running session -/

section Turns

variable {s t : State}

/-- While BUSY an access leaves everything but WERR, DONE, CRC_ACC and the host's record (45_host_commands.md R305). -/
theorem hostAccess_of_busy {a : HostAccess} (hb : s.busy = true) (h : hostAccess a s = .next t) :
    t = { s with werr := t.werr, done := t.done, crcAcc := t.crcAcc, trace := t.trace } := by
  obtain ⟨-, rfl⟩ | ⟨-, rfl⟩ | ⟨i, -, hw⟩ := hostAccess_cases h
  · rw [State.lockedWrite_busy hb]; rfl
  · rw [State.lockedWrite_busy hb]; rfl
  · exact hw.locked hb

/-- A turn of a running session that is no reset is the block's, or leaves the chunk sequence alone. -/
theorem takeTurn_chunkTurn {u : Turn} (h : takeTurn u s = .next t) (hb : s.busy = true) (hu : u ≠ .reset) :
    (u = .block ∧ s.ChunkTurn s.pos t) ∨
    (t.pos = s.pos ∧ s.SameCounts t) := by
  cases u with
  | block =>
    have hturn := blockStep_chunkTurnAfter s
    rw [← takeTurn_block, h] at hturn
    exact .inl ⟨rfl, hturn⟩
  | access a =>
    rw [hostAccess_of_busy hb h]
    exact .inr ⟨rfl, rfl, rfl, rfl⟩
  | answer x =>
    obtain ⟨r, -, -, -, rfl⟩ := State.hostAnswer_next h
    exact .inr ⟨rfl, rfl, rfl, rfl⟩
  | deliver b =>
    cases h
    exact .inr ⟨rfl, rfl, rfl, rfl⟩
  | reset => exact absurd rfl hu

/-- The NOK that may not be retried is the last that RETRYCOUNT allows (42_sender.md R209). -/
theorem retryCnt_eq_limit (hr : s.res.retryCnt.toNat < s.sess.rc.toNat) (hlimit : ¬ s.res.retryCnt + 1#8 < s.sess.rc) :
    s.res.retryCnt.toNat + 1 = s.sess.rc.toNat := by
  rw [BitVec.lt_def, retryCnt_add_one hr] at hlimit
  omega

/-- The full chunks and the remainder are the whole file (30_encoding.md R117). -/
theorem State.SizesFit.total (h : s.SizesFit) :
    s.res.numFull.toNat * s.sess.p.toNat + s.res.remSize.toNat = s.sess.fs.toNat ∧
      s.res.remSize.toNat < s.sess.p.toNat := by
  obtain ⟨hlo, -, -, hp, hfull, hrem⟩ := h
  rw [hfull, hrem]
  exact ⟨Nat.div_add_mod' .., Nat.mod_lt _ (by omega)⟩

/-- Only a normal close ends in success (60_exceptions.md R331, R335). -/
theorem endAfterClose_success {e : Ending} (he : e.fits s.exhausted = true)
    (h : (s.endAfterClose e).outcome = .success ∨ (s.endAfterClose e).outcome = .successExhausted) : e = .finish := by
  cases e with
  | finish => rfl
  | raised o d =>
    obtain ⟨-, ⟨-, hs, hx⟩, -⟩ := Ending.fits_raised.1 he
    exact (h.elim hs hx).elim

/-- A session about to end in success has done every chunk, and a receiver has its whole file (R212, R252). -/
theorem State.Inv.closing {e : Ending} (h : s.Inv) (hp : s.pos = .sCloseAns e ∨ s.pos = .rCloseAns e) :
    s.SizesFit ∧ s.Ends e ∧ (s.sess.dir = .receive → s.FileWhole e) := by
  obtain hp | hp := hp
  · obtain ⟨-, ⟨hdir, -, hsizes⟩, -, hends⟩ := h.session hp nofun
    exact ⟨hsizes, hends, fun hrecv => nomatch hdir.symm.trans hrecv⟩
  · obtain ⟨-, ⟨-, -, hsizes⟩, -, hends, hfile⟩ := h.session hp nofun
    exact ⟨hsizes, hends, fun _ => hfile⟩

end Turns

/-- Settles O53: the turn that ends the session is the answer to a normal close. -/
theorem successMeansEveryChunk : Obligations.SuccessMeansEveryChunk := by
  intro s t hinv h hb hidle hsuccess
  rw [step_eq_takeTurn] at h
  have hinv' : { s with agenda := s.agenda.tail }.Inv := hinv.of_unread _ _ _ _ _ _ _
  have hreset : s.nextTurn ≠ .reset := by
    intro hu
    rw [hu] at h
    cases h
    exact hsuccess.elim nofun nofun
  have hrunning : t.busy ≠ s.busy := by rw [hb, hidle]; nofun
  obtain ⟨-, hturn⟩ | ⟨-, hsame⟩ := takeTurn_chunkTurn h hb hreset
  · cases hturn with
    | keeps hsame => exact absurd hsame.busy hrunning
    | enters _ _ hbusy => exact absurd hbusy hrunning
    | next _ _ _ _ hbusy => exact absurd hbusy hrunning
    | closes _ _ hsame => exact absurd hsame.busy hrunning
    | fails _ _ _ ho => exact (hsuccess.elim ho.1 ho.2).elim
    | ends e hp ht =>
      subst ht
      obtain ⟨hsizes, ⟨hfits, hidx⟩, hfile⟩ := hinv'.closing hp
      obtain rfl := endAfterClose_success (s := State.portDone { s with agenda := s.agenda.tail }) hfits hsuccess
      exact ⟨hidx rfl, hsizes.total.1, hsizes.total.2, fun hrecv => hfile hrecv rfl⟩
  · exact absurd hsame.busy hrunning

/-- Settles O54, by what the block's turn may do to the chunk sequence. -/
theorem chunkIndexGoesFromZeroToNumFull : Obligations.ChunkIndexGoesFromZeroToNumFull := by
  intro s t hinv h hb hreset chunkDone
  rw [step_eq_takeTurn] at h
  simp only [← Pos.normalClose_iff]
  obtain ⟨hu, hturn⟩ | ⟨hpos, hsizes, hidx, -⟩ := takeTurn_chunkTurn h hb hreset
  · have hdone : s.ChunkDone s.pos → chunkDone := fun hd =>
      ⟨hu, hd.imp id (.imp (fun ⟨hp, hq, hlenient, hlimit⟩ =>
        ⟨hp, hq, hlenient, retryCnt_eq_limit (hinv.retry.2 (by rw [hp]; rfl)) hlimit⟩) id)⟩
    cases hturn with
    | keeps hsame hin hclose =>
      obtain ⟨hsizes, hidx, -⟩ := hsame
      obtain ⟨hnum, hrem, hp⟩ := State.sizes_eq_iff.1 hsizes
      exact ⟨fun hs ht => absurd (hs.symm.trans (hin ht)) nofun, fun _ => ⟨hnum, hrem, hp, .inl hidx⟩,
        fun hc hne => absurd (hclose hc) hne⟩
    | enters hout hidx _ hclose =>
      exact ⟨fun _ => hidx, fun hs => absurd (hout.symm.trans hs) nofun,
        fun hc => absurd (hclose.symm.trans hc) nofun⟩
    | next hd hmore hsizes hidx _ hclose =>
      obtain ⟨hnum, hrem, hp⟩ := State.sizes_eq_iff.1 hsizes
      have hsucc : t.res.chunkIdx.toNat = s.res.chunkIdx.toNat + 1 := by rw [hidx]; exact toNat_add_one_of_lt hmore
      exact ⟨fun hs => absurd (hs.symm.trans hd.inChunk) nofun,
        fun _ => ⟨hnum, hrem, hp, .inr ⟨hsucc, hmore, hdone hd⟩⟩, fun hc => absurd (hclose.symm.trans hc) nofun⟩
    | closes hd hlast hsame =>
      obtain ⟨hsizes, hidx, -⟩ := hsame
      obtain ⟨hnum, hrem, hp⟩ := State.sizes_eq_iff.1 hsizes
      have heq : s.res.chunkIdx = s.res.numFull := (hinv.chunkFits hd.inChunk).idx_eq hlast
      exact ⟨fun hs => absurd (hs.symm.trans hd.inChunk) nofun, fun _ => ⟨hnum, hrem, hp, .inl hidx⟩,
        fun _ _ => ⟨hd.inChunk, heq, hidx, hdone hd⟩⟩
    | fails hsizes hidx hpos =>
      obtain ⟨hnum, hrem, hp⟩ := State.sizes_eq_iff.1 hsizes
      rw [hpos]
      exact ⟨nofun, fun _ => ⟨hnum, hrem, hp, .inl hidx⟩, nofun⟩
    | ends e hp ht =>
      have hout : s.pos.inChunk = false := by obtain hp | hp := hp <;> exact congrArg Pos.inChunk hp
      have hpos : t.pos = .idle := by rw [ht]; cases e <;> rfl
      rw [hpos]
      exact ⟨nofun, fun hs => absurd (hout.symm.trans hs) nofun, nofun⟩
  · obtain ⟨hnum, hrem, hp⟩ := State.sizes_eq_iff.1 hsizes
    exact ⟨fun hs ht => absurd (hs.symm.trans ((congrArg Pos.inChunk hpos).symm.trans ht)) nofun,
      fun _ => ⟨hnum, hrem, hp, .inl hidx⟩, fun _ hne => absurd hpos hne⟩

end Sys2Proof.Machine
end

section
/-! The statements about the receiver's program (43_receiver.md): its two waits, its two counted reads, its verdicts,
and its requests of the file port. -/

namespace Sys2Proof.Machine

/-! ### A raise at the receiver (60_exceptions.md R335) -/

section Raise

variable {s : State} {o : SessionOutcome} {d : Detail}

/-- With its output file open the receiver closes it before the session ends. -/
theorem raise_of_sinkOpened (hdir : s.sess.dir = .receive) (hopen : s.sinkOpened = true) :
    s.raise o d = s.goto (.rClose (.raised o d)) := by
  simp [State.raise, hdir, hopen]

/-- Without one the session ends at once. -/
theorem raise_of_not_sinkOpened (hdir : s.sess.dir = .receive) (hopen : s.sinkOpened = false) :
    s.raise o d =
      { s with outcome := o, res := { s.res with errinfo := d }, pos := .idle, busy := false, done := true } := by
  simp [State.raise, State.endSession, hdir, hopen]

end Raise

/-! ### The handshake waits (R241, R247, 44_control_bytes.md R281, R283) -/

theorem exec_bot_of_awaitBot {s : State} (hp : s.pos = .rAwaitBot) :
    exec .bot s = .next { s with pos := .rEchoBot } := by
  simp only [exec, execBot, hp]
  rfl

theorem exec_sync_of_receiverWait {s : State} (hp : s.pos = .rWaitSync) :
    exec .sync s = .next { s with pos := .rSendVerdict } := by
  simp only [exec, execSync, hp]
  rfl

/-- Settles O34: the wait, and then the echo. -/
theorem receiverOpensTheSession : Obligations.ReceiverOpensTheSession := by
  intro s junk rest hp hag hbot
  have hwait : s.pos.handshakeWait = true := by rw [hp]; rfl
  have hjunk := expects_eq_false_of_notMem (p := s.pos) (fun _ => by rw [hp]; rfl) hbot
  refine ⟨fun hq => ?_, runSteps_wait_holds hag hwait hjunk⟩
  have hseen : runSteps (junk.length + 1) s = .next { s with rxq := rest, pos := .rEchoBot } := by
    rw [runSteps_wait_ends hag hwait hjunk hq]
    exact exec_bot_of_awaitBot hp
  rw [show junk.length + 2 = junk.length + 1 + 1 from rfl, runSteps_add 1 hseen, runSteps_one]
  exact step_of_block hag rfl

/-- Settles O39: the receiver's SYNC, and then the wait for the sender's. -/
theorem receiverHoldsTheBarrier : Obligations.ReceiverHoldsTheBarrier := by
  intro s junk rest hp hag hsync
  have hsent : step s = .next { s with txq := s.txq ++ [0x04#8], pos := .rWaitSync } :=
    step_of_block hag (by rw [blockStep, hp]; rfl)
  have hjunk := expects_eq_false_of_notMem (p := .rWaitSync) (fun _ => rfl) hsync
  have hagenda : { s with txq := s.txq ++ [0x04#8], pos := .rWaitSync }.agenda = [] := hag
  refine ⟨fun hq => ?_, fun hq n => ?_⟩
  · rw [runSteps_next hsent, runSteps_wait_ends hagenda rfl hjunk hq]
    exact exec_sync_of_receiverWait rfl
  · rw [show junk.length + 1 + n = junk.length + n + 1 by omega, runSteps_next hsent]
    exact runSteps_wait_holds hagenda rfl hjunk hq n

/-! ### Counted reads (45_host_commands.md R314) -/

/-- Inside a counted read an empty `rxq` is a hold (20_memory.md R90). -/
theorem blockStep_countedRead_hold {s : State} {k : Nat} (hp : s.pos = .rHeader k ∨ s.pos = .rChunk k)
    (hq : s.rxq = []) : blockStep s = .next s := by
  obtain ⟨-, hhold, -⟩ := holdsChangeNothing s
  refine hhold hq ?_
  obtain hp | hp := hp <;> simp [hp]

section CountedRead

variable {before : Nat → List Byte → Memory → State} {n : Nat}
  (htake : ∀ k < n, ∀ b q m, step (before k (b :: q) m) = .next (before (k + 1) q (m.write k b)))
include htake

/-- A counted read whose steps take the head of `rxq` into the buffer takes a run of bytes, one a step. Here
`before k q m` is the block before byte `k`, with `q` in `rxq` and `m` in the buffer. -/
theorem runSteps_takes (rest : List Byte) : ∀ (l : List Byte) (k : Nat) (m : Memory), k + l.length ≤ n →
    runSteps l.length (before k (l ++ rest) m) = .next (before (k + l.length) rest (m.writeRange k l))
  | [], _, _, _ => rfl
  | b :: l, k, m, hk => by
    rw [List.length_cons] at hk ⊢
    rw [List.cons_append, runSteps_next (htake k (by omega) b _ m),
      runSteps_takes rest l (k + 1) (m.write k b) (by omega), Memory.writeRange, Nat.add_right_comm, Nat.add_assoc]

/-- A counted read that runs out of bytes at or before byte `n` takes those there are and holds. -/
theorem runSteps_takes_holds (hhold : ∀ k m, step (before k [] m) = .next (before k [] m)) {l : List Byte}
    (m : Memory) (hl : l.length ≤ n) (j : Nat) :
    runSteps (l.length + j) (before 0 l m) = .next (before l.length [] (m.writeRange 0 l)) := by
  have htaken := runSteps_takes htake [] l 0 m (by omega)
  rw [List.append_nil, Nat.zero_add] at htaken
  rw [runSteps_add j htaken, runSteps_hold (hhold _ _)]

/-- A counted read of `n + 1` bytes, after which the block is `after q m`, with `q` in `rxq` and `m` in the buffer. -/
theorem runSteps_takes_all {after : List Byte → Memory → State}
    (hlast : ∀ b q m, step (before n (b :: q) m) = .next (after q (m.write n b))) {l : List Byte} (rest : List Byte)
    (m : Memory) (hl : l.length = n + 1) :
    runSteps (n + 1) (before 0 (l ++ rest) m) = .next (after rest (m.writeRange 0 l)) := by
  obtain rfl | ⟨init, b, rfl⟩ := List.eq_nil_or_concat' l
  · cases hl
  · have hinit : init.length = n := by simpa using hl
    have htaken := runSteps_takes htake (b :: rest) init 0 m (by omega)
    rw [hinit, Nat.zero_add] at htaken
    rw [List.append_assoc, List.singleton_append, runSteps_add 1 htaken, runSteps_one, hlast, Memory.writeRange_append,
      Nat.zero_add, hinit]
    rfl

end CountedRead

/-! ### The header (R242, R243) -/

/-- The receiver before header byte `k`, with `q` in `rxq` and `m` in HBUF. -/
def State.beforeHeaderByte (s : State) (k : Nat) (q : List Byte) (m : Memory) : State :=
  { s with rxq := q, hbuf := m, pos := .rHeader k }

/-- The receiver after the header in `m` is reported and accepted or refused, with `q` in `rxq`. -/
def State.afterHeaderBytes (s : State) (q : List Byte) (m : Memory) : State :=
  s.afterHeader q m (nameOfBytes (slice (m.readRange 0 88) 12 76)) (m.readRange 0 88)

theorem State.beforeHeaderByte_self {s : State} {k : Nat} {q : List Byte} (hp : s.pos = .rHeader k) (hq : s.rxq = q) :
    s.beforeHeaderByte k q s.hbuf = s := by
  rw [State.beforeHeaderByte, ← hp, ← hq]

theorem nameBytes_nameOfBytes_slice {h : List Byte} (hh : h.length = 88) :
    nameBytes (nameOfBytes (slice h 12 76)) = slice h 12 76 :=
  nameBytes_nameOfBytes (slice_length h 12 76 (by omega))

section HeaderBytes

variable {s : State} {k : Nat} {b : Byte} {q : List Byte}

theorem blockStep_headerByte (hp : s.pos = .rHeader k) (hq : s.rxq = b :: q) (hk : k + 1 < 88) :
    blockStep s = .next { s with rxq := q, hbuf := s.hbuf.write k b, pos := .rHeader (k + 1) } := by
  have hbyte : k < hdrSize := Nat.lt_of_succ_lt hk
  have hmore : k + 1 < hdrSize := hk
  simp only [blockStep, hp, receiverHeader, hq, if_pos hbyte, if_pos hmore]
  rfl

theorem blockStep_lastHeaderByte (hp : s.pos = .rHeader 87) (hq : s.rxq = b :: q) (hdir : s.sess.dir = .receive)
    (hopen : s.sinkOpened = false) : blockStep s = .next (s.afterHeaderBytes q (s.hbuf.write 87 b)) := by
  have hdone : blockStep s = .next (receiverHeaderDone { s with rxq := q, hbuf := s.hbuf.write 87 b }) := by
    simp only [blockStep, hp, receiverHeader, hq]
    rfl
  exact hdone.trans (congrArg Host.Outcome.next (receiverHeaderDone_eq hdir hopen))

theorem step_headerByte (hag : s.agenda = []) : ∀ k < 87, ∀ b q m,
    step (s.beforeHeaderByte k (b :: q) m) = .next (s.beforeHeaderByte (k + 1) q (m.write k b)) :=
  fun _ hk _ _ _ => step_of_block hag (blockStep_headerByte rfl rfl (Nat.succ_lt_succ hk))

theorem step_headerByte_hold (hag : s.agenda = []) (k : Nat) (m : Memory) :
    step (s.beforeHeaderByte k [] m) = .next (s.beforeHeaderByte k [] m) :=
  step_of_block hag (blockStep_countedRead_hold (.inl rfl) rfl)

theorem step_lastHeaderByte (hag : s.agenda = []) (hdir : s.sess.dir = .receive) (hopen : s.sinkOpened = false)
    (b : Byte) (q : List Byte) (m : Memory) :
    step (s.beforeHeaderByte 87 (b :: q) m) = .next (s.afterHeaderBytes q (m.write 87 b)) :=
  step_of_block hag (blockStep_lastHeaderByte (s := s.beforeHeaderByte 87 (b :: q) m) rfl rfl hdir hopen)

end HeaderBytes

/-- Settles O35, by the length of what is in `rxq`. -/
theorem receiverReadsTheHeader : Obligations.ReceiverReadsTheHeader := by
  intro s hwf hdir hopen
  refine ⟨fun h rest hp hag hh hq => ?_, fun hp hag hshort => ?_, fun k b r hp hq => ?_⟩
  · obtain ⟨hbwf, hread, hother⟩ := Memory.writeRange_zero hwf hh
    refine ⟨_, nameOfBytes (slice h 12 76), hbwf, hread, hother, nameBytes_nameOfBytes_slice hh, ?_⟩
    have hrun := runSteps_takes_all (step_headerByte hag) (step_lastHeaderByte hag hdir hopen) rest s.hbuf hh
    rwa [State.afterHeaderBytes, hread, State.beforeHeaderByte_self hp hq] at hrun
  · obtain ⟨hbwf, hread, hother⟩ := Memory.writeRange_zero hwf (rfl : s.rxq.length = _)
    refine ⟨_, hbwf, hread, hother, fun n => ?_⟩
    have hrun := runSteps_takes_holds (step_headerByte hag) (step_headerByte_hold hag) s.hbuf
      (Nat.le_of_lt_succ hshort) n
    rwa [State.beforeHeaderByte_self hp rfl] at hrun
  · refine ⟨Memory.write_wf k b hwf, Memory.read_write_same k b hwf,
      fun a ha => Memory.read_write_other ha s.hbuf, blockStep_headerByte hp hq, fun hk => ?_⟩
    obtain rfl : k = 87 := Nat.succ.inj hk
    exact ⟨_, nameBytes_nameOfBytes_slice (Memory.readRange_length ..), blockStep_lastHeaderByte hp hq hdir hopen⟩

/-! ### The chunk (R245, R246) -/

/-- The receiver before chunk byte `k`, with `q` in `rxq` and `m` in BUF. -/
def State.beforeChunkByte (s : State) (k : Nat) (q : List Byte) (m : Memory) : State :=
  { s with rxq := q, buf := m, pos := .rChunk k }

/-- The receiver after the check of the chunk in `m`, with `q` in `rxq`. -/
def State.afterChunkBytes (s : State) (q : List Byte) (m : Memory) : State := { s with
  rxq := q, buf := m
  sess := { s.sess with
    ok := decide (checksum s.sess.cfg (m.readRange 0 s.sess.len.toNat) = fromLe32 (m.readRange s.sess.len.toNat 4)) }
  pos := .rSendSync }

/-- A buffer that starts with a payload and its trailer reads as the one and the other. -/
theorem Memory.readRange_payload_trailer {m : Memory} {payload trailer : List Byte} {n : Nat}
    (hread : m.readRange 0 (n + 4) = payload ++ trailer) (hlen : payload.length = n) :
    m.readRange 0 n = payload ∧ m.readRange n 4 = trailer := by
  rw [Memory.readRange_add, Nat.zero_add] at hread
  exact List.append_inj hread (by rw [Memory.readRange_length, hlen])

section ChunkBytes

variable {s : State} {k : Nat} {b : Byte} {q : List Byte} (hfit : s.sess.len.toNat + 4 ≤ s.params.chunkBufSize)
include hfit

theorem blockStep_chunkByte (hp : s.pos = .rChunk k) (hq : s.rxq = b :: q) (hk : k + 1 < s.sess.len.toNat + 4) :
    blockStep s = .next { s with rxq := q, buf := s.buf.write k b, pos := .rChunk (k + 1) } := by
  have hbyte : k < s.params.chunkBufSize := by omega
  have hmore : k + 1 < s.chunkBytes := hk
  simp only [blockStep, hp, receiverChunk, hq, if_pos hbyte, if_pos hmore]
  rfl

theorem blockStep_lastChunkByte (hp : s.pos = .rChunk k) (hq : s.rxq = b :: q) (hk : k + 1 = s.sess.len.toNat + 4) :
    blockStep s = .next (s.afterChunkBytes q (s.buf.write k b)) := by
  have hbyte : k < s.params.chunkBufSize := by omega
  have hdone : ¬ k + 1 < s.chunkBytes := hk.not_lt
  simp only [blockStep, hp, receiverChunk, hq, if_pos hbyte, if_neg hdone]
  rfl

variable (hag : s.agenda = [])
include hag

theorem step_chunkByte : ∀ k < s.sess.len.toNat + 3, ∀ b q m,
    step (s.beforeChunkByte k (b :: q) m) = .next (s.beforeChunkByte (k + 1) q (m.write k b)) :=
  fun k hk b q m => step_of_block hag
    (blockStep_chunkByte (s := s.beforeChunkByte k (b :: q) m) hfit rfl rfl (Nat.succ_lt_succ hk))

/-- From chunk byte 0 the receiver takes the `len + 4` bytes of an attempt and makes the check. -/
theorem runSteps_chunkBytes {l : List Byte} (rest : List Byte) (m : Memory) (hl : l.length = s.sess.len.toNat + 4) :
    runSteps (s.sess.len.toNat + 4) (s.beforeChunkByte 0 (l ++ rest) m) =
      .next (s.afterChunkBytes rest (m.writeRange 0 l)) :=
  runSteps_takes_all (step_chunkByte hfit hag) (fun b q m => step_of_block hag (blockStep_lastChunkByte
    (s := s.beforeChunkByte (s.sess.len.toNat + 3) (b :: q) m) hfit rfl rfl rfl)) rest m hl

/-- With fewer bytes than an attempt has the receiver takes those there are and holds. -/
theorem runSteps_chunkBytes_holds {l : List Byte} (m : Memory) (hl : l.length < s.sess.len.toNat + 4) (n : Nat) :
    runSteps (l.length + n) (s.beforeChunkByte 0 l m) = .next (s.beforeChunkByte l.length [] (m.writeRange 0 l)) := by
  have hhold : ∀ k m, step (s.beforeChunkByte k [] m) = .next (s.beforeChunkByte k [] m) := fun k m =>
    step_of_block hag (blockStep_countedRead_hold (.inr rfl) rfl)
  exact runSteps_takes_holds (step_chunkByte hfit hag) hhold m (Nat.le_of_lt_succ hl) n

end ChunkBytes

/-- Settles O38: EOT, and then by the length of what is in `rxq`. -/
theorem receiverReadsTheChunk : Obligations.ReceiverReadsTheChunk := by
  refine ⟨fun s hp hag hwf hfit => ?_, fun s k b r hp hq hwf hfit => ?_⟩
  · have hsent : step s = .next ({ s with txq := s.txq ++ [0x01#8] }.beforeChunkByte 0 s.rxq s.buf) :=
      step_of_block hag (by rw [blockStep, hp]; rfl)
    refine ⟨fun payload trailer rest hlen htrailer hq => ?_, fun hshort => ?_⟩
    · have hall : (payload ++ trailer).length = s.sess.len.toNat + 4 := by rw [List.length_append, hlen, htrailer]
      obtain ⟨hBwf, hread, hother⟩ := Memory.writeRange_zero hwf hall
      obtain ⟨hpayload, htail⟩ := Memory.readRange_payload_trailer hread hlen
      have hrun := runSteps_chunkBytes (s := { s with txq := s.txq ++ [0x01#8] }) hfit hag rest s.buf hall
      rw [State.afterChunkBytes, hpayload, htail, ← hq] at hrun
      exact ⟨_, hBwf, hread, hother, (runSteps_next hsent).trans hrun⟩
    · obtain ⟨hBwf, hread, hother⟩ := Memory.writeRange_zero hwf (rfl : s.rxq.length = _)
      refine ⟨_, hBwf, hread, hother, fun n => ?_⟩
      rw [show 1 + s.rxq.length + n = s.rxq.length + n + 1 by omega, runSteps_next hsent]
      exact runSteps_chunkBytes_holds (s := { s with txq := s.txq ++ [0x01#8] }) hfit hag s.buf hshort n
  · exact ⟨Memory.write_wf k b hwf, Memory.read_write_same k b hwf, fun a ha => Memory.read_write_other ha s.buf,
      blockStep_chunkByte hfit hp hq, blockStep_lastChunkByte hfit hp hq⟩

/-! ### The verdict (R248, R249) -/

section Verdict

variable {s : State}

theorem receiverSendVerdict_of_ok (hok : s.sess.ok = true) :
    receiverSendVerdict s = .next { s with txq := s.txq ++ [0x07#8], pos := .rCommit } := if_pos hok

theorem receiverSendVerdict_of_not_ok (hok : s.sess.ok = false) :
    receiverSendVerdict s = .next ((s.linkSend ctrlNOK).nokVerdict .rSendEot fun t => t.goto .rCommit) :=
  if_neg (by rw [hok]; nofun)

/-- Below the limit the counter does not wrap, so its comparison after one more NOK is that of the numbers. -/
theorem retryCnt_add_one_lt_iff (hr : s.res.retryCnt.toNat < s.sess.rc.toNat) :
    s.res.retryCnt + 1#8 < s.sess.rc ↔ s.res.retryCnt.toNat + 1 < s.sess.rc.toNat := by
  rw [BitVec.lt_def, retryCnt_add_one hr]

theorem nokVerdict_raises {again : Pos} {advance : State → State} (h : ¬ s.res.retryCnt + 1#8 < s.sess.rc)
    (hstrict : s.sess.rstrict = true) :
    s.nokVerdict again advance = { s.countNok with exhausted := true }.raise .retryExhausted .retryLimit := by
  simp [State.nokVerdict, h, hstrict]

end Verdict

/-- Settles O40, by the check's result and the three cases of a NOK. -/
theorem receiverVerdict : Obligations.ReceiverVerdict := by
  intro s hp
  have hturn : blockStep s = receiverSendVerdict s := by rw [blockStep, hp]
  rw [hturn]
  refine ⟨receiverSendVerdict_of_ok, fun hok hdir hopen hr => ?_⟩
  have hlimit := retryCnt_add_one_lt_iff hr
  rw [receiverSendVerdict_of_not_ok hok]
  refine ⟨retryCnt_add_one hr, fun hlt => ?_, fun heq hstrict => ?_, fun heq hlenient => ?_⟩
  · rw [nokVerdict_retries (s := s.linkSend ctrlNOK) (hlimit.2 hlt)]
    rfl
  · rw [nokVerdict_raises (s := s.linkSend ctrlNOK) (mt hlimit.1 (by omega)) hstrict]
    exact congrArg Host.Outcome.next (raise_of_sinkOpened hdir hopen)
  · rw [nokVerdict_advances (s := s.linkSend ctrlNOK) (mt hlimit.1 (by omega)) hlenient]
    rfl

/-! ### Requests of the file port (R243, R250) -/

/-- Settles O41, answer by answer. -/
theorem receiverCommits : Obligations.ReceiverCommits := by
  intro s rest hp ha hfit payload
  have hissue : ∀ agenda, blockStep { s with agenda := agenda } =
      .next ({ s with agenda := agenda }.issue (.sinkAppend payload) .rCommitAns) :=
    fun agenda => by simp only [blockStep, hp]; exact if_pos hfit
  have htake : ∀ t : State, t.pos = .rCommitAns → blockStep t = t.takeAnswer receiverCommitAnswer :=
    fun t ht => by rw [blockStep, ht]
  refine ⟨fun hag => ?_, fun hag hdir hopen => ?_⟩
  · obtain ⟨hissued, hrun⟩ := runSteps_request ha (FileRequest.admits_sinkAppend_ack payload) hag hissue htake
    refine ⟨hissued, fun hidx => ?_, fun hidx => ?_⟩
    · exact hrun.trans (congrArg Host.Outcome.next (nextChunk_of_lt _ _ hidx))
    · exact hrun.trans (congrArg Host.Outcome.next (nextChunk_of_not_lt _ _ hidx.not_gt))
  · obtain ⟨-, hrun⟩ := runSteps_request ha (FileRequest.admits_sinkAppend_ioErr payload) hag hissue htake
    exact hrun.trans (congrArg Host.Outcome.next (raise_of_sinkOpened hdir hopen))

/-- Settles O37, answer by answer. -/
theorem receiverOpensTheFile : Obligations.ReceiverOpensTheFile := by
  intro s rest hp ha
  have hissue : ∀ agenda, blockStep { s with agenda := agenda } = .next ({ s with agenda := agenda }.issue
      (.sinkOpen ((slice (s.hbuf.readRange 0 88) 12 76).takeWhile (· != 0#8))) .rOpenAns) :=
    fun agenda => by simp only [blockStep, hp]; rfl
  have htake : ∀ t : State, t.pos = .rOpenAns → blockStep t = t.takeAnswer receiverOpenAnswer :=
    fun t ht => by rw [blockStep, ht]
  refine ⟨fun hag => runSteps_request ha (FileRequest.admits_sinkOpen_ack _) hag hissue htake,
    fun hag hdir hopen => ?_⟩
  obtain ⟨-, hrun⟩ := runSteps_request ha (FileRequest.admits_sinkOpen_ioErr _) hag hissue htake
  exact hrun.trans (congrArg Host.Outcome.next (raise_of_not_sinkOpened hdir hopen))

end Sys2Proof.Machine
end

section
/-! The statement about the bytes BOT and SYNC (44_control_bytes.md R281, R283): what they do off their waits, and the
two bytes at every position. -/

namespace Sys2Proof.Machine

variable {s : State}

/-- Off the two opening waits BOT is discarded (R281). -/
theorem exec_bot_of_ne (hsender : s.pos ≠ .sAwaitPeer) (hreceiver : s.pos ≠ .rAwaitBot) :
    exec .bot s = .next s := by
  change execBot s = .next s
  rw [execBot]
  split
  · next hp => exact absurd hp hsender
  · next hp => exact absurd hp hreceiver
  · rfl

/-- Off the two barrier waits SYNC is discarded (R283). -/
theorem exec_sync_of_ne (hsender : s.pos ≠ .sWaitSync) (hreceiver : s.pos ≠ .rWaitSync) :
    exec .sync s = .next s := by
  change execSync s = .next s
  rw [execSync]
  split
  · next hp => exact absurd hp hsender
  · next hp => exact absurd hp hreceiver
  · rfl

/-- Settles O6: each byte at the sender's wait, at the receiver's, and off both. -/
theorem botAndSyncEndTheirWaits : Obligations.BotAndSyncEndTheirWaits := fun _ =>
  ⟨exec_bot_of_awaitPeer, exec_bot_of_awaitBot, exec_bot_of_ne,
    exec_sync_of_senderWait, exec_sync_of_receiverWait, exec_sync_of_ne⟩

end Sys2Proof.Machine
end

section
/-! The statements about the host's commands and register accesses (45_host_commands.md): the lock, the two STARTs, the
writes, the reads, and what an access may change of a running session. -/

namespace Sys2Proof

/-- The rows that are locked while BUSY: the two STARTs, and the writes of the configuration registers and of the name
buffer (45_host_commands.md R304, R305). -/
def Instr.isLocked : Instr → Bool
  | .send | .receive | .wrCtrl _ | .wrRetrycount _ | .wrChunkSize _ | .wrFileSize _ | .wrCrcPoly _ | .wrCrcInit _
  | .wrCrcXorout _ | .wrName _ _ => true
  | _ => false

namespace Machine

/-! ### The lock (R304, R305) -/

section Lock

variable {s t : State} {i : Instr}

theorem sendStart_werr (s : State) : (sendStart s).werr = s.werr := by
  unfold sendStart
  dsimp only
  split <;> rfl

theorem receiveStart_werr (s : State) : (receiveStart s).werr = s.werr := by
  unfold receiveStart
  dsimp only
  split <;> rfl

/-- A locked row is a locked write of something that leaves WERR alone. -/
theorem exec_locked (hi : i.isLocked = true) (s : State) :
    ∃ w, exec i s = .next (s.lockedWrite w) ∧ w.werr = s.werr := by
  cases i with
  | send => exact ⟨_, rfl, sendStart_werr s⟩
  | receive => exact ⟨_, rfl, receiveStart_werr s⟩
  | wrCtrl | wrRetrycount | wrChunkSize | wrFileSize | wrCrcPoly | wrCrcInit | wrCrcXorout | wrName =>
    exact ⟨_, rfl, rfl⟩
  | _ => cases hi

/-- While BUSY a locked row only sets WERR (R305). -/
theorem exec_locked_of_busy (hi : i.isLocked = true) (hb : s.busy = true) :
    exec i s = .next { s with werr := true } := by
  obtain ⟨w, h, -⟩ := exec_locked hi s
  rw [h, State.lockedWrite_busy hb]
  rfl

theorem lockedWrite_werr {w : State} (hw : w.werr = s.werr) (hs : s.werr = true) : (s.lockedWrite w).werr = true := by
  obtain ⟨-, he⟩ | ⟨-, he⟩ := State.lockedWrite_cases s w
  · rw [he]; rfl
  · rw [he, hw, hs]

/-- Only a write to STATUS with bit 2 set clears WERR (R306). -/
theorem exec_werr (h : exec i s = .next t) (hc : i.isControl = false) (hs : s.werr = true) :
    t.werr = true ∨ ∃ data : Word, i = .wrStatus data ∧ data.getLsbD 2 = true := by
  by_cases hi : i.isLocked = true
  · obtain ⟨w, he, hw⟩ := exec_locked hi s
    cases he.symm.trans h
    exact .inl (lockedWrite_werr hw hs)
  · cases i with
    | wrStatus data =>
      cases h
      cases hbit : data.getLsbD 2 with
      | true => exact .inr ⟨data, rfl, hbit⟩
      | false => exact .inl (by simp [clearedBy, hs])
    | cmdReserved => cases h; exact .inl rfl
    | eot | bot | lok | sync | ok | rsd | sok | nok | ctrlOther => cases hc
    | send | receive | wrCtrl | wrRetrycount | wrChunkSize | wrFileSize | wrCrcPoly | wrCrcInit | wrCrcXorout
    | wrName => exact absurd rfl hi
    | _ => cases h; exact .inl hs

/-- The turns that may clear WERR: a write to STATUS with bit 2 set, and a reset. -/
theorem takeTurn_werr {u : Turn} (h : takeTurn u s = .next t) (hs : s.werr = true) :
    t.werr = true ∨ u = .reset ∨ ∃ data : Word, u.instr = some (.wrStatus data) ∧ data.getLsbD 2 = true := by
  cases u with
  | block =>
    obtain ⟨hside, -⟩ := blockStep_next_moved h
    have hwerr : t.hostSide.werr = s.hostSide.werr := by rw [hside]
    exact .inl (hwerr.trans hs)
  | access a =>
    obtain ⟨i, hi, hc, he⟩ := hostAccess_next h
    obtain hw | ⟨data, rfl, hbit⟩ := exec_werr he hc hs
    · exact .inl hw
    · exact .inr (.inr ⟨data, hi, hbit⟩)
  | answer x =>
    obtain ⟨r, -, -, -, rfl⟩ := State.hostAnswer_next h
    exact .inl hs
  | deliver b => cases h; exact .inl hs
  | reset => exact .inr (.inl rfl)

end Lock

/-- Settles O16: the locked rows, the rows that do not look at BUSY, and the turns that may clear WERR. -/
theorem busyLock : Obligations.BusyLock := by
  refine ⟨fun s i hb hi => ?_, fun s t i _ hi h => ?_, fun s t h hs ht => ?_⟩
  · refine exec_locked_of_busy ?_ hb
    obtain rfl | rfl | ⟨data, rfl | rfl | rfl | rfl | rfl | rfl | rfl | ⟨k, rfl⟩⟩ := hi <;> rfl
  · obtain rfl | ⟨data, rfl | rfl | rfl | ⟨off, rfl⟩⟩ := hi <;> cases h <;> rfl
  · rw [step_eq_takeTurn] at h
    refine (takeTurn_werr h hs).resolve_left fun hw => ?_
    cases hw.symm.trans ht

/-! ### SEND (R300, R200) -/

section Send

variable {s : State}

/-- A SEND that a start check refuses (R300). -/
theorem exec_send_refused {d : Detail} (hb : s.busy = false) (hd : sendCheck s = some d) :
    exec .send s = .next { s with
      done := true, exhausted := false, outcome := .configError, dir := .send
      res := { Results.cleared with errinfo := d } } := by
  rw [exec, execSend, State.lockedWrite_idle hb, sendStart, hd]
  rfl

/-- A SEND that passes its start checks enters the sender (R300, R200). -/
theorem exec_send_accepted (hb : s.busy = false) (hd : sendCheck s = none) :
    exec .send s = .next (senderEntry { s.acceptStart .send with busy := true }) := by
  rw [exec, execSend, State.lockedWrite_idle hb, sendStart, hd]

theorem sendCheck_fileSize (hfs : 0x7FFFFFFF < s.fileSize.toNat) : sendCheck s = some .fileSizeRange := if_pos hfs

theorem sendCheck_chunkSize (hfs : s.fileSize.toNat ≤ 0x7FFFFFFF)
    (hcs : s.chunkSize.toNat < 5 ∨ s.params.chunkBufSize < s.chunkSize.toNat) :
    sendCheck s = some .chunkSizeRange := by
  rw [sendCheck, if_neg (by omega), if_pos hcs]

/-- With the sizes in range the checks of RETRYCOUNT and of the name remain (R300). -/
theorem sendCheck_of_sizes (hfs : s.fileSize.toNat ≤ 0x7FFFFFFF) (hlo : 5 ≤ s.chunkSize.toNat)
    (hhi : s.chunkSize.toNat ≤ s.params.chunkBufSize) :
    sendCheck s = if s.retrycount = 0#8 then some .retrycountZero
      else if hasNul (nameBytes s.name) = false then some .nameTooLong else none := by
  rw [sendCheck, if_neg (by omega), if_neg (by omega)]

/-- `P` of a chunk size that SEND accepts (R200). -/
theorem chunkSize_sub_four_toNat {cs : Word} (hlo : 5 ≤ cs.toNat) : (cs - 4#32).toNat = cs.toNat - 4 :=
  BitVec.toNat_sub_of_le (by rw [BitVec.le_def]; exact (by omega : 4 ≤ cs.toNat))

/-- NUM_FULL is the quotient of the sizes as numbers (R200, 30_encoding.md R117). -/
theorem numFull_eq_ofNat {fs cs : Word} (hlo : 5 ≤ cs.toNat) :
    fs / (cs - 4#32) = BitVec.ofNat 32 (fs.toNat / (cs.toNat - 4)) := by
  rw [← chunkSize_sub_four_toNat hlo, ← BitVec.toNat_udiv, BitVec.ofNat_toNat, BitVec.setWidth_eq]

/-- REM_SIZE is the remainder of the sizes as numbers (R200, R117). -/
theorem remSize_eq_ofNat {fs cs : Word} (hlo : 5 ≤ cs.toNat) :
    fs % (cs - 4#32) = BitVec.ofNat 32 (fs.toNat % (cs.toNat - 4)) := by
  rw [← chunkSize_sub_four_toNat hlo, ← BitVec.toNat_umod, BitVec.ofNat_toNat, BitVec.setWidth_eq]

end Send

/-- Settles O10: the lock, the checks in their order, and the sender's entry. -/
theorem sendCommand : Obligations.SendCommand := by
  refine ⟨decode_busWrite rfl 1#32, fun s => ⟨exec_locked_of_busy rfl, fun hb hfs => ?_, fun hb hfs =>
    ⟨fun hcs => ?_, fun hlo hhi => ⟨fun hrc => ?_, fun hrc hname => ?_, fun hrc hname => ?_⟩⟩⟩⟩
  · exact exec_send_refused hb (sendCheck_fileSize hfs)
  · exact exec_send_refused hb (sendCheck_chunkSize hfs hcs)
  all_goals have hcheck := sendCheck_of_sizes hfs hlo hhi
  · rw [if_pos hrc] at hcheck
    exact exec_send_refused hb hcheck
  · rw [if_neg hrc, if_pos ((hasNul_eq_false_iff _).2 hname)] at hcheck
    exact exec_send_refused hb hcheck
  · rw [if_neg hrc, (hasNul_eq_true_iff _).2 hname, if_neg nofun] at hcheck
    rw [exec_send_accepted hb hcheck, ← numFull_eq_ofNat hlo, ← remSize_eq_ofNat hlo]
    rfl

/-! ### RECEIVE and the reserved commands (R301, R302, R240) -/

/-- RECEIVE when not BUSY looks at RETRYCOUNT alone (R301). -/
theorem exec_receive_idle {s : State} (hb : s.busy = false) : exec .receive s = .next
    (if s.retrycount = 0#8 then (s.acceptStart .receive).configError .retrycountZero
      else receiverEntry { s.acceptStart .receive with busy := true }) := by
  rw [exec, execReceive, State.lockedWrite_idle hb, receiveStart]

/-- Settles O11: the lock, the one check, and the receiver's entry. -/
theorem receiveCommand : Obligations.ReceiveCommand := by
  refine ⟨decode_busWrite rfl 2#32, fun s => ⟨exec_locked_of_busy rfl, fun hb hrc => ?_, fun hb hrc => ?_⟩⟩
  · rw [exec_receive_idle hb, if_pos hrc]
    rfl
  · rw [exec_receive_idle hb, if_neg hrc]
    rfl

/-- Settles O13: a reserved value is found after the three commands, and its meaning does not look at BUSY. -/
theorem reservedCommandSetsWerr : Obligations.ReservedCommandSetsWerr := by
  intro s data hsend hreceive hclear
  have hrow : decodeWrite 0x04#8 data = .cmdReserved data := decodeCommand_of_reservedCommand ⟨hsend, hreceive, hclear⟩
  exact ⟨(decode_busWrite rfl data).trans (congrArg _ hrow), rfl⟩

/-! ### Register writes (R304 to R312) -/

/-- Settles O15: an idle locked write stores its operand. -/
theorem idleRegisterWritesStore : Obligations.IdleRegisterWritesStore := by
  intro s data hb
  have hstore (w : State) : (.next (s.lockedWrite w) : Result) = .next w := by rw [State.lockedWrite_idle hb]
  have hctrl : ctrlOperand data = data.extractLsb' 0 4 := BitVec.setWidth_eq_extractLsb' (by omega)
  have hretry : retrycountOperand data = data.extractLsb' 0 8 := BitVec.setWidth_eq_extractLsb' (by omega)
  rw [← hctrl, ← hretry]
  exact ⟨hstore _, hstore _, hstore _, hstore _, hstore _, hstore _, hstore _, fun _ => hstore _⟩

/-- A W1C bit is cleared exactly by writing 1 to it (10_state.md R32). -/
theorem clearedBy_eq_ite (flag writtenBit : Bool) : clearedBy flag writtenBit = if writtenBit then false else flag := by
  cases writtenBit
  · exact Bool.and_true flag
  · exact Bool.and_false flag

/-- Settles O17, from the two W1C bits. -/
theorem statusWriteClearsDoneAndWerr : Obligations.StatusWriteClearsDoneAndWerr := by
  intro s v
  rw [← clearedBy_eq_ite, ← clearedBy_eq_ite]
  exact ⟨decode_busWrite rfl v, rfl⟩

/-! ### Reads and ignored accesses (R303, R312, 10_state.md R60) -/

/-- A read of a row returns the row's value to the host and does nothing else. -/
theorem read_row {s : State} {off : BitVec 8} {i : Instr} {v w : Word} (hoff : off.toNat % 4 = 0)
    (hrow : decodeRead off = i) (hexec : exec i s = .next (s.hostReturn v)) (hv : v = w) :
    decode (.bus (busDesc false off 0#32)) = .ok i ∧ exec i s = .next { s with trace := s.trace ++ [w] } := by
  rw [← hv]
  exact ⟨(decode_busRead hoff).trans (congrArg _ hrow), hexec⟩

theorem read_unmapped (s : State) {off : BitVec 8} (h : unmappedOffset off) :
    decode (.bus (busDesc false off 0#32)) = .ok (.rdUnmapped off) ∧
      exec (.rdUnmapped off) s = .next { s with trace := s.trace ++ [0#32] } :=
  read_row h.1 (decodeRead_of_unmappedOffset h) rfl rfl

/-- Settles O18: the ignored writes and the unmapped reads. -/
theorem ignoredAndUnmappedAccesses : Obligations.IgnoredAndUnmappedAccesses := by
  refine ⟨fun s off data haligned hrange => ?_, fun s off haligned hrange => read_unmapped s ⟨haligned, hrange⟩⟩
  have hoff : ignoredOffset off := ⟨haligned, by simp only [unmappedOffset]; omega⟩
  exact ⟨(decode_busWrite haligned data).trans (congrArg _ (decodeWrite_of_ignoredOffset hoff data)), rfl⟩

theorem read_name (s : State) (k : BitVec 4) :
    decode (.bus (busDesc false (BitVec.ofNat 8 (0x80 + 4 * k.toNat)) 0#32)) = .ok (.rdName k) ∧
      exec (.rdName k) s = .next { s with trace := s.trace ++ [s.name[k.toFin.val]] } := by
  have hoff : BitVec.ofNat 8 (0x80 + 4 * k.toNat) = nameOffset k := by
    rw [← nameOffset_toNat, BitVec.ofNat_toNat, BitVec.setWidth_eq]
  rw [hoff]
  exact read_row (nameOffset_aligned k) (decodeRead_nameOffset k) rfl rfl

/-- A register of four bits reads with 28 zeros above it (10_state.md R61). -/
theorem readExtend_four (v : BitVec 4) : readExtend v = 0#28 ++ v := BitVec.setWidth_eq_append (by omega)

/-- A register of eight bits reads with 24 zeros above it (10_state.md R61). -/
theorem readExtend_eight (v : BitVec 8) : readExtend v = 0#24 ++ v := BitVec.setWidth_eq_append (by omega)

/-- Settles O19, register by register. -/
theorem registerReads : Obligations.RegisterReads := by
  refine fun s => ⟨?_, read_name s, fun off haligned hrange => read_unmapped s ⟨haligned, hrange⟩⟩
  simp only [List.forall_mem_cons, List.not_mem_nil, false_imp_iff, implies_true, and_true]
  have hctrl := read_row (s := s) (off := 0x00#8) rfl rfl rfl (readExtend_four s.ctrl)
  have hretry := read_row (s := s) (off := 0x0C#8) rfl rfl rfl (readExtend_eight s.retrycount)
  have hcount := read_row (s := s) (off := 0x34#8) rfl rfl rfl (readExtend_eight s.res.retryCnt)
  have hinfo := read_row (s := s) (off := 0x60#8) rfl rfl rfl (readExtend_eight s.res.errinfo.code)
  have hrow {off : BitVec 8} {i : Instr} {v : Word} (hoff : off.toNat % 4 = 0) (hi : decodeRead off = i)
      (he : exec i s = .next (s.hostReturn v)) := read_row hoff hi he rfl
  exact ⟨hctrl, hrow rfl rfl rfl, hrow rfl rfl rfl, hretry, hrow rfl rfl rfl, hrow rfl rfl rfl, hrow rfl rfl rfl,
    hrow rfl rfl rfl, hrow rfl rfl rfl, hrow rfl rfl rfl, hrow rfl rfl rfl, hrow rfl rfl rfl, hrow rfl rfl rfl, hcount,
    hrow rfl rfl rfl, hrow rfl rfl rfl, hrow rfl rfl rfl, hrow rfl rfl rfl, hrow rfl rfl rfl, hrow rfl rfl rfl,
    hrow rfl rfl rfl, hrow rfl rfl rfl, hrow rfl rfl rfl, hrow rfl rfl rfl, hinfo⟩

/-! ### A running session (R305) -/

/-- While BUSY no access sets DONE. -/
theorem hostAccess_done_of_busy {s t : State} {a : HostAccess} (hb : s.busy = true) (h : hostAccess a s = .next t)
    (hd : t.done = true) : s.done = true := by
  obtain ⟨-, rfl⟩ | ⟨-, rfl⟩ | ⟨i, -, hw⟩ := hostAccess_cases h
  · rw [State.lockedWrite_busy hb] at hd; exact hd
  · rw [State.lockedWrite_busy hb] at hd; exact hd
  · exact hw.done hd

/-- Settles O50, by what an access may write while BUSY. -/
theorem hostAccessesDoNotDisturbASession : Obligations.HostAccessesDoNotDisturbASession := fun _ _ _ hb h =>
  ⟨hostAccess_of_busy hb h, hostAccess_done_of_busy hb h⟩

end Machine
end Sys2Proof
end

section
/-! What a turn does to the configuration of a running session: the configuration registers, the snapshot SESS and the
name buffer (10_state.md R63, 45_host_commands.md R305, 70_reset_and_hazards.md R374, R378). -/

namespace Sys2Proof.Machine

/-- The configuration registers: CTRL, RETRYCOUNT, CHUNK_SIZE, FILE_SIZE and the CRC configuration. -/
def State.configRegs (s : State) : BitVec 4 × BitVec 8 × Word × Word × Word × Word × Word :=
  (s.ctrl, s.retrycount, s.chunkSize, s.fileSize, s.crcPoly, s.crcInit, s.crcXorout)

/-- The part of the snapshot that every session takes from the registers at its start (42_sender.md R200, 43_receiver.md
R240). -/
def State.startSnapshot (s : State) : Direction × CrcCfg × BitVec 8 × Bool × Bool :=
  (s.sess.dir, s.sess.cfg, s.sess.rc, s.sess.hstrict, s.sess.rstrict)

/-- The sizes and the name of a session: a sender has them from its start, a receiver takes them from the header
(R200, R242, R243). -/
def State.sizesAndName (s : State) : Word × Word × Word × Vector Word 16 :=
  (s.sess.fs, s.sess.cs, s.sess.p, s.name)

/-- `t` has the session configuration of `s`, the sizes and the name among it. -/
def State.SameSession (s t : State) : Prop := t.startSnapshot = s.startSnapshot ∧ t.sizesAndName = s.sizesAndName

/-- `State.SameSession` of the state that a result answers. -/
def SameSessionAfter (s : State) : Result → Prop
  | .next t => s.SameSession t
  | .fault _ | .refused _ => True

/-! ### The shared operations -/

section Operations

variable (s : State)

theorem raise_sameSession (o : SessionOutcome) (d : Detail) : s.SameSession (s.raise o d) := by
  obtain ⟨-, h⟩ | ⟨-, -, h⟩ | ⟨-, -, h⟩ := State.raise_cases s o d <;> exact h ▸ ⟨rfl, rfl⟩

theorem endAfterClose_sameSession (e : Ending) : s.SameSession (s.endAfterClose e) := by
  cases e <;> exact ⟨rfl, rfl⟩

theorem nextChunk_sameSession (again close : Pos) : s.SameSession (s.nextChunk again close) := by
  obtain ⟨-, h⟩ | ⟨-, h⟩ := State.nextChunk_cases s again close <;> exact h ▸ ⟨rfl, rfl⟩

theorem nokVerdict_sameSession (again : Pos) {advance : State → State}
    (hadv : ∀ t, State.SameSession t (advance t)) : s.SameSession (s.nokVerdict again advance) := by
  obtain ⟨-, h⟩ | ⟨-, -, h⟩ | ⟨-, -, h⟩ := State.nokVerdict_cases s again advance
  · exact h ▸ ⟨rfl, rfl⟩
  · rw [h]; exact raise_sameSession { s.countNok with exhausted := true } _ _
  · rw [h]; exact hadv { s.countNok with exhausted := true }

theorem takeAnswer_sameSession {k : State → FileAnswer → Result} (hk : ∀ t x, SameSessionAfter t (k t x)) :
    SameSessionAfter s (s.takeAnswer k) := by
  cases h : s.takeAnswer k with
  | next t =>
    obtain ⟨-, rfl⟩ | ⟨x, r, -, -, -, hx⟩ := State.takeAnswer_next h
    · exact ⟨rfl, rfl⟩
    · have hm := hk s.portDone x
      rw [hx] at hm
      exact hm
  | fault | refused => trivial

theorem exec_control_sameSession {i : Instr} (hi : i.isControl = true) : SameSessionAfter s (exec i s) := by
  cases i with
  | eot | lok | ok | rsd | ctrlOther => exact ⟨rfl, rfl⟩
  | bot | sync =>
    simp only [exec, execBot, execSync]
    split <;> exact ⟨rfl, rfl⟩
  | sok =>
    simp only [exec, execSok]
    split
    · exact nextChunk_sameSession s _ _
    · exact ⟨rfl, rfl⟩
  | nok =>
    simp only [exec, execNok]
    split
    · exact nokVerdict_sameSession s _ fun t => nextChunk_sameSession t _ _
    · exact ⟨rfl, rfl⟩
  | _ => cases hi

theorem recvControl_sameSession : SameSessionAfter s (recvControl s) := by
  unfold recvControl
  split
  · exact ⟨rfl, rfl⟩
  · next b r _ => exact exec_control_sameSession { s with rxq := r } (decodeCtrl_isControl b)

end Operations

/-! ### The block's turn -/

section Steps

variable (s : State)

theorem senderHeader_sameSession (k : Nat) : SameSessionAfter s (senderHeader s k) := by
  unfold senderHeader
  dsimp only
  repeat' split
  · exact ⟨rfl, rfl⟩
  · exact ⟨rfl, rfl⟩
  · trivial

theorem senderLoadAnswer_sameSession (x : FileAnswer) : SameSessionAfter s (senderLoadAnswer s x) := by
  cases x with
  | ack => trivial
  | ioErr => exact raise_sameSession s _ _
  | data payload =>
    simp only [senderLoadAnswer, senderChunkLoaded]
    repeat' split
    · exact ⟨rfl, rfl⟩
    · trivial
    · trivial

theorem senderChunk_sameSession (k : Nat) : SameSessionAfter s (senderChunk s k) := by
  unfold senderChunk
  split
  · exact ⟨rfl, rfl⟩
  · trivial

theorem senderCloseAnswer_sameSession (e : Ending) (x : FileAnswer) :
    SameSessionAfter s (senderCloseAnswer s e x) := by
  cases x with
  | ack => exact endAfterClose_sameSession s e
  | data | ioErr => trivial

theorem receiverOpenAnswer_sameSession (x : FileAnswer) : SameSessionAfter s (receiverOpenAnswer s x) := by
  cases x with
  | ack => exact ⟨rfl, rfl⟩
  | ioErr => exact raise_sameSession s _ _
  | data => trivial

theorem receiverChunk_sameSession (k : Nat) : SameSessionAfter s (receiverChunk s k) := by
  unfold receiverChunk
  split
  · exact ⟨rfl, rfl⟩
  · dsimp only
    repeat' split
    · exact ⟨rfl, rfl⟩
    · exact ⟨rfl, rfl⟩
    · trivial

theorem receiverSendVerdict_sameSession : SameSessionAfter s (receiverSendVerdict s) := by
  unfold receiverSendVerdict
  split
  · exact ⟨rfl, rfl⟩
  · exact nokVerdict_sameSession (s.linkSend ctrlNOK) .rSendEot fun _ => ⟨rfl, rfl⟩

theorem receiverCommit_sameSession : SameSessionAfter s (receiverCommit s) := by
  unfold receiverCommit
  split
  · exact ⟨rfl, rfl⟩
  · trivial

theorem receiverCommitAnswer_sameSession (x : FileAnswer) : SameSessionAfter s (receiverCommitAnswer s x) := by
  cases x with
  | ack => exact nextChunk_sameSession s _ _
  | ioErr => exact raise_sameSession s _ _
  | data => trivial

theorem receiverCloseAnswer_sameSession (e : Ending) (x : FileAnswer) :
    SameSessionAfter s (receiverCloseAnswer s e x) := by
  cases x with
  | ack => exact endAfterClose_sameSession s e
  | data | ioErr => trivial

/-- Off the receiver's read of the header a turn of the block keeps the whole session configuration. -/
theorem blockStep_sameSession (hp : ∀ k, s.pos ≠ .rHeader k) : SameSessionAfter s (blockStep s) := by
  unfold blockStep
  cases hpos : s.pos with
  | rHeader k => exact absurd hpos (hp k)
  | sAwaitPeer | sWaitSync | sWaitVerdict | rAwaitBot | rWaitSync => exact recvControl_sameSession s
  | sHeader k => exact senderHeader_sameSession s k
  | sLoadAns => exact takeAnswer_sameSession s senderLoadAnswer_sameSession
  | sChunk k => exact senderChunk_sameSession s k
  | sCloseAns e => exact takeAnswer_sameSession s fun t => senderCloseAnswer_sameSession t e
  | rOpenAns => exact takeAnswer_sameSession s receiverOpenAnswer_sameSession
  | rChunk k => exact receiverChunk_sameSession s k
  | rSendVerdict => exact receiverSendVerdict_sameSession s
  | rCommit => exact receiverCommit_sameSession s
  | rCommitAns => exact takeAnswer_sameSession s receiverCommitAnswer_sameSession
  | rCloseAns e => exact takeAnswer_sameSession s fun t => receiverCloseAnswer_sameSession t e
  | _ => exact ⟨rfl, rfl⟩

/-- The header that the receiver has read sets the sizes and the name alone (43_receiver.md R242, R243). -/
theorem receiverHeaderDone_startSnapshot : (receiverHeaderDone s).startSnapshot = s.startSnapshot := by
  unfold receiverHeaderDone
  dsimp only
  split
  · exact (raise_sameSession (receiverReport s _) _ _).1
  · rfl

theorem receiverHeader_startSnapshot {t : State} {k : Nat} (h : receiverHeader s k = .next t) :
    t.startSnapshot = s.startSnapshot := by
  unfold receiverHeader at h
  dsimp only at h
  split at h
  · cases h; rfl
  · split at h
    · cases h
      split
      · rfl
      · exact receiverHeaderDone_startSnapshot { s with rxq := _, hbuf := _ }
    · cases h

end Steps

section Turns

variable {s t : State}

/-- A turn of the block keeps the snapshot of the start, and at a sender's positions the sizes and the name too. -/
theorem blockStep_session (h : blockStep s = .next t) :
    t.startSnapshot = s.startSnapshot ∧ (s.pos.ofSender = true → t.sizesAndName = s.sizesAndName) := by
  by_cases hp : ∃ k, s.pos = .rHeader k
  · obtain ⟨k, hp⟩ := hp
    refine ⟨receiverHeader_startSnapshot s (k := k) ?_, fun hsend => ?_⟩
    · simpa only [blockStep, hp] using h
    · rw [hp] at hsend
      cases hsend
  · have hsame := blockStep_sameSession s fun k hk => hp ⟨k, hk⟩
    rw [h] at hsame
    obtain ⟨hsnap, hsizes⟩ := hsame
    exact ⟨hsnap, fun _ => hsizes⟩

/-- A turn of a running session that is no reset keeps its configuration (R305, R374, R63, R378). -/
theorem takeTurn_configuration {u : Turn} (h : takeTurn u s = .next t) (hb : s.busy = true) (hu : u ≠ .reset) :
    t.configRegs = s.configRegs ∧ t.startSnapshot = s.startSnapshot ∧
      (s.pos.ofSender = true → t.sizesAndName = s.sizesAndName) := by
  cases u with
  | block =>
    obtain ⟨hside, -⟩ := blockStep_next_moved h
    have hregs : t.hostSide.configRegs = s.hostSide.configRegs := congrArg _ hside
    exact ⟨hregs, blockStep_session h⟩
  | access a =>
    rw [hostAccess_of_busy hb h]
    exact ⟨rfl, rfl, fun _ => rfl⟩
  | answer x =>
    obtain ⟨r, -, -, -, rfl⟩ := State.hostAnswer_next h
    exact ⟨rfl, rfl, fun _ => rfl⟩
  | deliver b =>
    cases h
    exact ⟨rfl, rfl, fun _ => rfl⟩
  | reset => exact absurd rfl hu

end Turns

/-- Settles O51, by the turn that the step takes. -/
theorem configurationIsLockedWhileBusy : Obligations.ConfigurationIsLockedWhileBusy := by
  intro s t h hb hu
  rw [step_eq_takeTurn] at h
  have hconf := takeTurn_configuration h hb hu
  simp only [State.configRegs, State.startSnapshot, State.sizesAndName, Prod.mk.injEq] at hconf
  obtain ⟨⟨hctrl, hretry, hchunk, hfile, hpoly, hinit, hxorout⟩, ⟨hdir, hcfg, hrc, hhdr, hrst⟩, hsizes⟩ := hconf
  exact ⟨hctrl, hretry, hchunk, hfile, hpoly, hinit, hxorout, hdir, hcfg, hrc, hhdr, hrst, hsizes⟩

end Sys2Proof.Machine
end

section
/-! The statement about the end of a session (60_exceptions.md R335): where a raise leads, and what a close issues and
leaves. -/

namespace Sys2Proof.Machine

section SessionEnd

variable {s : State} {e : Ending} {rest : List Turn}

/-- The sender's file is always open, so a raise there closes it first. -/
theorem raise_of_send {o : SessionOutcome} {d : Detail} (hdir : s.sess.dir = .send) :
    s.raise o d = s.goto (.sClose (.raised o d)) := by
  simp [State.raise, hdir]

/-- The end of a session keeps nothing of the position it is reached from. -/
theorem endAfterClose_goto (s : State) (p : Pos) : (s.goto p).endAfterClose e = s.endAfterClose e := by
  cases e <;> rfl

/-- The sender closes the source: the request, and with its Ack the end (42_sender.md R210). -/
theorem runSteps_srcClose (hp : s.pos = .sClose e) (ha : s.answer = none)
    (hag : s.agenda = .block :: .answer .ack :: .block :: rest) :
    runSteps 1 s = .next { s with
      agenda := .answer .ack :: .block :: rest, pending := some .srcClose, pos := .sCloseAns e } ∧
    runSteps 3 s = .next ({ s with agenda := rest, pending := none }.endAfterClose e) := by
  obtain ⟨hissued, hrun⟩ := runSteps_request ha FileRequest.admits_srcClose_ack hag
    (fun _ => by simp only [blockStep, hp]; rfl) (fun t (ht : t.pos = .sCloseAns e) => by rw [blockStep, ht])
  have hended := endAfterClose_goto (e := e) { s with agenda := rest, pending := none } (.sCloseAns e)
  exact ⟨hissued, hrun.trans (congrArg Host.Outcome.next hended)⟩

/-- The receiver closes the output file: the request, and with its Ack the end (43_receiver.md R251). -/
theorem runSteps_sinkClose (hp : s.pos = .rClose e) (ha : s.answer = none)
    (hag : s.agenda = .block :: .answer .ack :: .block :: rest) :
    runSteps 1 s = .next { s with
      agenda := .answer .ack :: .block :: rest, pending := some .sinkClose, pos := .rCloseAns e } ∧
    runSteps 3 s = .next ({ s with agenda := rest, pending := none }.endAfterClose e) := by
  obtain ⟨hissued, hrun⟩ := runSteps_request ha FileRequest.admits_sinkClose_ack hag
    (fun _ => by simp only [blockStep, hp]; rfl) (fun t (ht : t.pos = .rCloseAns e) => by rw [blockStep, ht])
  have hended := endAfterClose_goto (e := e) { s with agenda := rest, pending := none } (.rCloseAns e)
  exact ⟨hissued, hrun.trans (congrArg Host.Outcome.next hended)⟩

end SessionEnd

/-- Settles O42, raise by raise and then close by close. -/
theorem sessionsEnd : Obligations.SessionsEnd := by
  refine ⟨fun s o d => ⟨raise_of_send, raise_of_sinkOpened, raise_of_not_sinkOpened⟩, fun s e rest hp ha hag => ?_⟩
  intro ended
  have hended : { s with agenda := rest, pending := none }.endAfterClose e = ended := by cases e <;> rfl
  have hidle : blockStep ended = .next ended := blockStep_idle rfl
  obtain hp | hp := hp
  · obtain ⟨hissued, hrun⟩ := runSteps_srcClose hp ha hag
    rw [if_pos hp, if_pos hp, ← hended]
    exact ⟨hissued, hrun, hended ▸ hidle⟩
  · have hreceiver : s.pos ≠ .sClose e := by rw [hp]; nofun
    obtain ⟨hissued, hrun⟩ := runSteps_sinkClose hp ha hag
    rw [if_neg hreceiver, if_neg hreceiver, ← hended]
    exact ⟨hissued, hrun, hended ▸ hidle⟩

end Sys2Proof.Machine
end

section
/-! The two statements about the reset (70_reset_and_hazards.md R370 to R372): what a reset turn leaves, and that the
machine it leaves satisfies the invariant. -/

namespace Sys2Proof.Machine

/-- A reset turn leaves the reset block, with the turns after it still to come. -/
theorem step_reset {s : State} {rest : List Turn} (h : s.agenda = .reset :: rest) :
    step s = .next { s with agenda := rest }.resetBlock := by
  rw [step_cons h, takeTurn_reset]

/-- The reset withdraws the pending request, so an answer that comes after it has none to answer (R371). -/
theorem resetBlock_hostAnswer (s : State) (x : FileAnswer) :
    s.resetBlock.hostAnswer x = .refused .answerWithoutRequest :=
  hostAnswer_notAwaited (.inl s.resetBlock_pending)

/-- The machine right after reset, with its link and trace empty, is what a reset makes of itself. -/
theorem resetBlock_reset : State.reset.resetBlock = State.reset := rfl

/-- Settles O43: the reset turn's next state is `State.resetBlock`, whose SESS, BUF and HBUF are those of
`State.reset`. -/
theorem resetTurn : Obligations.ResetTurn := fun s rest h =>
  ⟨State.reset.sess, State.reset.buf, State.reset.hbuf, { s with agenda := rest }.resetBlock,
    step_reset h, rfl, resetBlock_hostAnswer _⟩

/-- Settles O45: `State.reset` is a block that was reset, and every such block satisfies the invariant. -/
theorem invariantHoldsAtReset : Obligations.InvariantHoldsAtReset := by
  rw [Obligations.InvariantHoldsAtReset, ← resetBlock_reset]
  exact resetBlock_inv State.reset

end Sys2Proof.Machine
end
